-- ==== Sys2Proof/Word.lean ====
section
/-! DEFINITION. The two word types of the core: the byte (a register, a flag-free memory cell) and the 16-bit
word (the program counter, an address). -/

namespace Sys2Proof

/-- `u8`: the width of `A`, `X`, `Y`, `SP` and of a memory cell (R4). -/
abbrev Byte := BitVec 8

/-- `u16`: the width of `PC` and of an address (R4). -/
abbrev Word := BitVec 16

end Sys2Proof
end

