-- ==== Sys2Proof/Config.lean ====
section
/-! DEFINITION. The parameters of the step relation (00_scope.md R5, R9): what is fixed for a machine and is not
state. The open parameters `UNDEFINED_OPCODE` and `DECIMAL` stand at the spec's defaults and are said where they act
(Machine/Ops.lean, Machine/AddSubtract.lean); `END` is an argument of Safety.lean. -/

namespace Sys2Proof

/-- `PROFILE`: which opcode bytes are defined (R3, R5, R200). -/
inductive Profile where
  /-- The eleven mnemonics the source gives effects for, 66 opcode bytes (R3). -/
  | core
  /-- CORE and the 81 general-knowledge rows of files 48 and 49 (R200). -/
  | ext
  deriving DecidableEq, Repr

/-- DESIGN CHOICE (log 1, unsafe): the machine that `step` runs has `PROFILE == EXT`, so that every row of the
opcode table executes. The spec's own default is CORE; `Machine.stepIn .core` is that machine. -/
abbrev Config.profile : Profile := .ext

/-- DESIGN CHOICE (log 2, unsafe): what a byte that memory does not list reads as. The spec gives no initial
contents (R58); every contents can be listed. -/
abbrev Config.unlistedByte : Byte := 0x00#8

/-- The address of the reset vector's low byte (R50, R180). -/
abbrev Config.resetVectorLow : Word := 0xFFFC#16

/-- The address of the reset vector's high byte (R50, R180). -/
abbrev Config.resetVectorHigh : Word := 0xFFFD#16

/-- The first address of the stack page (R269). -/
abbrev Config.stackPage : Word := 0x0100#16

/-- The parameters `INIT_A`, `INIT_X`, `INIT_Y`, `INIT_SP`, `INIT_FLAGS` and `INIT_CR` (R5, R31). -/
structure Init where
  A : Byte
  X : Byte
  Y : Byte
  SP : Byte
  C : Bool
  Z : Bool
  I : Bool
  D : Bool
  V : Bool
  N : Bool
  CR : Nat
  deriving DecidableEq, Repr

/-- The values R5 and R31 take for the `INIT` parameters: registers 0, flags false, Idle (log 3, UNVERIFIED: the
source says only "typically all-zero"; unsafe against the silicon). -/
abbrev Config.init : Init :=
  { A := 0x00#8, X := 0x00#8, Y := 0x00#8, SP := 0x00#8
    C := false, Z := false, I := false, D := false, V := false, N := false, CR := 0 }

end Sys2Proof
end

