-- ==== Sys2Proof/Machine/Bits.lean ====
section
/-! DEFINITION. The bit-field, byte-order and extension helpers of 00_scope.md section 5.1. -/

namespace Sys2Proof.Machine

/-- `lo(w) = w & 0xFF`. -/
def lo (w : Word) : Byte := w.setWidth 8

/-- `hi(w) = (w >> 8) & 0xFF`, which is also `page(w)`. -/
def hi (w : Word) : Byte := (w >>> 8).setWidth 8

/-- `w16(h, l) = l | (h << 8)`: the little-endian pair (R45). -/
def w16 (h l : Byte) : Word := l.setWidth 16 ||| (h.setWidth 16 <<< 8)

/-- `zext_16(v)`. -/
def zext16 (v : Byte) : Word := v.setWidth 16

/-- `sext_16(v) = v` if `v < 128`, else `v + 0xFF00`. -/
def sext16 (v : Byte) : Word :=
  if v.toNat < 128 then zext16 v else zext16 v + 0xFF00#16

/-- `bit(v, i) == 1`. -/
def bit (v : Byte) (i : Nat) : Bool := v.getLsbD i

/-- `b2n(f)`. -/
def b2n (f : Bool) : Nat := if f then 1 else 0

/-- `signed8(v)`: the two's-complement reading of a byte. -/
def signed8 (v : Byte) : Int :=
  if v.toNat < 128 then (v.toNat : Int) else (v.toNat : Int) - 256

end Sys2Proof.Machine
end

