-- ==== Sys2Proof/Syntax.lean ====
section
/-! DEFINITION. The instructions: mode codes, mnemonics, the operand a mode assembles, and `Instr`, one constructor per
row of spec/opcode_table.json. -/

namespace Sys2Proof

/-- The thirteen mode codes (R92, glossary of 00_scope.md). -/
inductive Mode where
  | acc | imm | zpp | zpx | zpy | abs | abx | aby | ind | izx | izy | rel | imp
  deriving DecidableEq, Repr

/-- The 52 mnemonics: the eleven of CORE (R3), then those of EXT (R203). -/
inductive Mnemonic where
  | adc | sbc | and | ora | cpa | cpx | cpy | asl | lsr | rol | ror | lda | ldx
  | ldy | sta | stx | sty | tax | tay | txa | tya | tsx | txs | inc | dec | inx
  | iny | dex | dey | eor | bit | clc | sec | cli | sei | cld | sed | clv | nop
  | bpl | bmi | bvc | bvs | bcc | bcs | bne | beq | jmp | jsr | rts | pha | pla
  deriving DecidableEq, Repr

/-- What the instructions of one class do with their operand: the `class` column of R66 and R203. -/
inductive OpClass where
  | readOnly | readModifyWrite | store | branch | jump | stack | implied
  deriving DecidableEq, Repr

/-- A mode with the quantity its operand bytes assemble to (R63): a byte for the formats F2, a little-endian word for
F3, nothing for F1. The displacement of `rel` is the byte itself; R252 reads it as signed. -/
inductive ModeArg where
  | acc
  | imp
  | imm (v : Byte)
  | zpp (b : Byte)
  | zpx (b : Byte)
  | zpy (b : Byte)
  | izx (b : Byte)
  | izy (b : Byte)
  | rel (d : Byte)
  | abs (w : Word)
  | abx (w : Word)
  | aby (w : Word)
  | ind (w : Word)
  deriving DecidableEq, Repr

/-- One constructor per row of spec/opcode_table.json, named by its mnemonic and, where the mnemonic has several rows,
its mode; the argument is the row's assembled operand (R63). Every operand value is legal (R71). -/
inductive Instr where
  | adcIzx (b : Byte)
  | adcZpp (b : Byte)
  | adcImm (v : Byte)
  | adcAbs (w : Word)
  | adcIzy (b : Byte)
  | adcZpx (b : Byte)
  | adcAby (w : Word)
  | adcAbx (w : Word)
  | sbcIzx (b : Byte)
  | sbcZpp (b : Byte)
  | sbcImm (v : Byte)
  | sbcAbs (w : Word)
  | sbcIzy (b : Byte)
  | sbcZpx (b : Byte)
  | sbcAby (w : Word)
  | sbcAbx (w : Word)
  | andIzx (b : Byte)
  | andZpp (b : Byte)
  | andImm (v : Byte)
  | andAbs (w : Word)
  | andIzy (b : Byte)
  | andZpx (b : Byte)
  | andAby (w : Word)
  | andAbx (w : Word)
  | oraIzx (b : Byte)
  | oraZpp (b : Byte)
  | oraImm (v : Byte)
  | oraAbs (w : Word)
  | oraIzy (b : Byte)
  | oraZpx (b : Byte)
  | oraAby (w : Word)
  | oraAbx (w : Word)
  | cpaIzx (b : Byte)
  | cpaZpp (b : Byte)
  | cpaImm (v : Byte)
  | cpaAbs (w : Word)
  | cpaIzy (b : Byte)
  | cpaZpx (b : Byte)
  | cpaAby (w : Word)
  | cpaAbx (w : Word)
  | cpxImm (v : Byte)
  | cpxZpp (b : Byte)
  | cpxAbs (w : Word)
  | cpyImm (v : Byte)
  | cpyZpp (b : Byte)
  | cpyAbs (w : Word)
  | aslZpp (b : Byte)
  | aslAcc
  | aslAbs (w : Word)
  | aslZpx (b : Byte)
  | aslAbx (w : Word)
  | lsrZpp (b : Byte)
  | lsrAcc
  | lsrAbs (w : Word)
  | lsrZpx (b : Byte)
  | lsrAbx (w : Word)
  | rolZpp (b : Byte)
  | rolAcc
  | rolAbs (w : Word)
  | rolZpx (b : Byte)
  | rolAbx (w : Word)
  | rorZpp (b : Byte)
  | rorAcc
  | rorAbs (w : Word)
  | rorZpx (b : Byte)
  | rorAbx (w : Word)
  | ldaIzx (b : Byte)
  | ldaZpp (b : Byte)
  | ldaImm (v : Byte)
  | ldaAbs (w : Word)
  | ldaIzy (b : Byte)
  | ldaZpx (b : Byte)
  | ldaAby (w : Word)
  | ldaAbx (w : Word)
  | ldxImm (v : Byte)
  | ldxZpp (b : Byte)
  | ldxAbs (w : Word)
  | ldxZpy (b : Byte)
  | ldxAby (w : Word)
  | ldyImm (v : Byte)
  | ldyZpp (b : Byte)
  | ldyAbs (w : Word)
  | ldyZpx (b : Byte)
  | ldyAbx (w : Word)
  | staIzx (b : Byte)
  | staZpp (b : Byte)
  | staAbs (w : Word)
  | staIzy (b : Byte)
  | staZpx (b : Byte)
  | staAby (w : Word)
  | staAbx (w : Word)
  | stxZpp (b : Byte)
  | stxAbs (w : Word)
  | stxZpy (b : Byte)
  | styZpp (b : Byte)
  | styAbs (w : Word)
  | styZpx (b : Byte)
  | tax
  | tay
  | txa
  | tya
  | tsx
  | txs
  | incZpp (b : Byte)
  | incAbs (w : Word)
  | incZpx (b : Byte)
  | incAbx (w : Word)
  | decZpp (b : Byte)
  | decAbs (w : Word)
  | decZpx (b : Byte)
  | decAbx (w : Word)
  | inx
  | iny
  | dex
  | dey
  | eorIzx (b : Byte)
  | eorZpp (b : Byte)
  | eorImm (v : Byte)
  | eorAbs (w : Word)
  | eorIzy (b : Byte)
  | eorZpx (b : Byte)
  | eorAby (w : Word)
  | eorAbx (w : Word)
  | bitZpp (b : Byte)
  | bitAbs (w : Word)
  | clc
  | sec
  | cli
  | sei
  | cld
  | sed
  | clv
  | nop
  | bpl (d : Byte)
  | bmi (d : Byte)
  | bvc (d : Byte)
  | bvs (d : Byte)
  | bcc (d : Byte)
  | bcs (d : Byte)
  | bne (d : Byte)
  | beq (d : Byte)
  | jmpAbs (w : Word)
  | jmpInd (w : Word)
  | jsr (w : Word)
  | rts
  | pha
  | pla
  deriving DecidableEq, Repr

end Sys2Proof
end

