-- ==== Sys2Proof/Machine/Rows.lean ====
section
/-! DEFINITION. An instruction seen as its row of the opcode table: its mnemonic and its mode with the assembled
operand, and the lengths that follow (R60 to R63). -/

namespace Sys2Proof

/-- The mnemonic of the instruction's row (R66, R203). -/
def Instr.mnemonic : Instr → Mnemonic
  | .adcIzx _ | .adcZpp _ | .adcImm _ | .adcAbs _ | .adcIzy _ | .adcZpx _ | .adcAby _ | .adcAbx _ => .adc
  | .sbcIzx _ | .sbcZpp _ | .sbcImm _ | .sbcAbs _ | .sbcIzy _ | .sbcZpx _ | .sbcAby _ | .sbcAbx _ => .sbc
  | .andIzx _ | .andZpp _ | .andImm _ | .andAbs _ | .andIzy _ | .andZpx _ | .andAby _ | .andAbx _ => .and
  | .oraIzx _ | .oraZpp _ | .oraImm _ | .oraAbs _ | .oraIzy _ | .oraZpx _ | .oraAby _ | .oraAbx _ => .ora
  | .cpaIzx _ | .cpaZpp _ | .cpaImm _ | .cpaAbs _ | .cpaIzy _ | .cpaZpx _ | .cpaAby _ | .cpaAbx _ => .cpa
  | .cpxImm _ | .cpxZpp _ | .cpxAbs _ => .cpx
  | .cpyImm _ | .cpyZpp _ | .cpyAbs _ => .cpy
  | .aslZpp _ | .aslAcc | .aslAbs _ | .aslZpx _ | .aslAbx _ => .asl
  | .lsrZpp _ | .lsrAcc | .lsrAbs _ | .lsrZpx _ | .lsrAbx _ => .lsr
  | .rolZpp _ | .rolAcc | .rolAbs _ | .rolZpx _ | .rolAbx _ => .rol
  | .rorZpp _ | .rorAcc | .rorAbs _ | .rorZpx _ | .rorAbx _ => .ror
  | .ldaIzx _ | .ldaZpp _ | .ldaImm _ | .ldaAbs _ | .ldaIzy _ | .ldaZpx _ | .ldaAby _ | .ldaAbx _ => .lda
  | .ldxImm _ | .ldxZpp _ | .ldxAbs _ | .ldxZpy _ | .ldxAby _ => .ldx
  | .ldyImm _ | .ldyZpp _ | .ldyAbs _ | .ldyZpx _ | .ldyAbx _ => .ldy
  | .staIzx _ | .staZpp _ | .staAbs _ | .staIzy _ | .staZpx _ | .staAby _ | .staAbx _ => .sta
  | .stxZpp _ | .stxAbs _ | .stxZpy _ => .stx
  | .styZpp _ | .styAbs _ | .styZpx _ => .sty
  | .tax => .tax
  | .tay => .tay
  | .txa => .txa
  | .tya => .tya
  | .tsx => .tsx
  | .txs => .txs
  | .incZpp _ | .incAbs _ | .incZpx _ | .incAbx _ => .inc
  | .decZpp _ | .decAbs _ | .decZpx _ | .decAbx _ => .dec
  | .inx => .inx
  | .iny => .iny
  | .dex => .dex
  | .dey => .dey
  | .eorIzx _ | .eorZpp _ | .eorImm _ | .eorAbs _ | .eorIzy _ | .eorZpx _ | .eorAby _ | .eorAbx _ => .eor
  | .bitZpp _ | .bitAbs _ => .bit
  | .clc => .clc
  | .sec => .sec
  | .cli => .cli
  | .sei => .sei
  | .cld => .cld
  | .sed => .sed
  | .clv => .clv
  | .nop => .nop
  | .bpl _ => .bpl
  | .bmi _ => .bmi
  | .bvc _ => .bvc
  | .bvs _ => .bvs
  | .bcc _ => .bcc
  | .bcs _ => .bcs
  | .bne _ => .bne
  | .beq _ => .beq
  | .jmpAbs _ | .jmpInd _ => .jmp
  | .jsr _ => .jsr
  | .rts => .rts
  | .pha => .pha
  | .pla => .pla

/-- The mode of the instruction's row with its assembled operand (R63, R66, R203). -/
def Instr.arg : Instr → ModeArg
  | .adcIzx b => .izx b
  | .adcZpp b => .zpp b
  | .adcImm v => .imm v
  | .adcAbs w => .abs w
  | .adcIzy b => .izy b
  | .adcZpx b => .zpx b
  | .adcAby w => .aby w
  | .adcAbx w => .abx w
  | .sbcIzx b => .izx b
  | .sbcZpp b => .zpp b
  | .sbcImm v => .imm v
  | .sbcAbs w => .abs w
  | .sbcIzy b => .izy b
  | .sbcZpx b => .zpx b
  | .sbcAby w => .aby w
  | .sbcAbx w => .abx w
  | .andIzx b => .izx b
  | .andZpp b => .zpp b
  | .andImm v => .imm v
  | .andAbs w => .abs w
  | .andIzy b => .izy b
  | .andZpx b => .zpx b
  | .andAby w => .aby w
  | .andAbx w => .abx w
  | .oraIzx b => .izx b
  | .oraZpp b => .zpp b
  | .oraImm v => .imm v
  | .oraAbs w => .abs w
  | .oraIzy b => .izy b
  | .oraZpx b => .zpx b
  | .oraAby w => .aby w
  | .oraAbx w => .abx w
  | .cpaIzx b => .izx b
  | .cpaZpp b => .zpp b
  | .cpaImm v => .imm v
  | .cpaAbs w => .abs w
  | .cpaIzy b => .izy b
  | .cpaZpx b => .zpx b
  | .cpaAby w => .aby w
  | .cpaAbx w => .abx w
  | .cpxImm v => .imm v
  | .cpxZpp b => .zpp b
  | .cpxAbs w => .abs w
  | .cpyImm v => .imm v
  | .cpyZpp b => .zpp b
  | .cpyAbs w => .abs w
  | .aslZpp b => .zpp b
  | .aslAcc => .acc
  | .aslAbs w => .abs w
  | .aslZpx b => .zpx b
  | .aslAbx w => .abx w
  | .lsrZpp b => .zpp b
  | .lsrAcc => .acc
  | .lsrAbs w => .abs w
  | .lsrZpx b => .zpx b
  | .lsrAbx w => .abx w
  | .rolZpp b => .zpp b
  | .rolAcc => .acc
  | .rolAbs w => .abs w
  | .rolZpx b => .zpx b
  | .rolAbx w => .abx w
  | .rorZpp b => .zpp b
  | .rorAcc => .acc
  | .rorAbs w => .abs w
  | .rorZpx b => .zpx b
  | .rorAbx w => .abx w
  | .ldaIzx b => .izx b
  | .ldaZpp b => .zpp b
  | .ldaImm v => .imm v
  | .ldaAbs w => .abs w
  | .ldaIzy b => .izy b
  | .ldaZpx b => .zpx b
  | .ldaAby w => .aby w
  | .ldaAbx w => .abx w
  | .ldxImm v => .imm v
  | .ldxZpp b => .zpp b
  | .ldxAbs w => .abs w
  | .ldxZpy b => .zpy b
  | .ldxAby w => .aby w
  | .ldyImm v => .imm v
  | .ldyZpp b => .zpp b
  | .ldyAbs w => .abs w
  | .ldyZpx b => .zpx b
  | .ldyAbx w => .abx w
  | .staIzx b => .izx b
  | .staZpp b => .zpp b
  | .staAbs w => .abs w
  | .staIzy b => .izy b
  | .staZpx b => .zpx b
  | .staAby w => .aby w
  | .staAbx w => .abx w
  | .stxZpp b => .zpp b
  | .stxAbs w => .abs w
  | .stxZpy b => .zpy b
  | .styZpp b => .zpp b
  | .styAbs w => .abs w
  | .styZpx b => .zpx b
  | .tax => .imp
  | .tay => .imp
  | .txa => .imp
  | .tya => .imp
  | .tsx => .imp
  | .txs => .imp
  | .incZpp b => .zpp b
  | .incAbs w => .abs w
  | .incZpx b => .zpx b
  | .incAbx w => .abx w
  | .decZpp b => .zpp b
  | .decAbs w => .abs w
  | .decZpx b => .zpx b
  | .decAbx w => .abx w
  | .inx => .imp
  | .iny => .imp
  | .dex => .imp
  | .dey => .imp
  | .eorIzx b => .izx b
  | .eorZpp b => .zpp b
  | .eorImm v => .imm v
  | .eorAbs w => .abs w
  | .eorIzy b => .izy b
  | .eorZpx b => .zpx b
  | .eorAby w => .aby w
  | .eorAbx w => .abx w
  | .bitZpp b => .zpp b
  | .bitAbs w => .abs w
  | .clc => .imp
  | .sec => .imp
  | .cli => .imp
  | .sei => .imp
  | .cld => .imp
  | .sed => .imp
  | .clv => .imp
  | .nop => .imp
  | .bpl d => .rel d
  | .bmi d => .rel d
  | .bvc d => .rel d
  | .bvs d => .rel d
  | .bcc d => .rel d
  | .bcs d => .rel d
  | .bne d => .rel d
  | .beq d => .rel d
  | .jmpAbs w => .abs w
  | .jmpInd w => .ind w
  | .jsr w => .abs w
  | .rts => .imp
  | .pha => .imp
  | .pla => .imp

/-- The mode code of an assembled operand. -/
def ModeArg.mode : ModeArg → Mode
  | .acc => .acc
  | .imp => .imp
  | .imm _ => .imm
  | .zpp _ => .zpp
  | .zpx _ => .zpx
  | .zpy _ => .zpy
  | .izx _ => .izx
  | .izy _ => .izy
  | .rel _ => .rel
  | .abs _ => .abs
  | .abx _ => .abx
  | .aby _ => .aby
  | .ind _ => .ind

/-- The number of operand bytes a mode consumes (R60, R61). -/
def Mode.operandBytes : Mode → Nat
  | .acc | .imp => 0
  | .imm | .zpp | .zpx | .zpy | .izx | .izy | .rel => 1
  | .abs | .abx | .aby | .ind => 2

/-- The operand bytes of an assembled operand, in memory order: the low byte of a word first (R45, R61). -/
def ModeArg.bytes : ModeArg → List Byte
  | .acc | .imp => []
  | .imm v => [v]
  | .zpp b | .zpx b | .zpy b | .izx b | .izy b => [b]
  | .rel d => [d]
  | .abs w | .abx w | .aby w | .ind w => [Machine.lo w, Machine.hi w]

/-- The mode code of the instruction's row. -/
def Instr.mode (i : Instr) : Mode := i.arg.mode

/-- The instruction's length in bytes (R61, R62). -/
def Instr.size (i : Instr) : Nat := 1 + i.mode.operandBytes

/-- The mnemonics of profile CORE (R3). -/
def Mnemonic.isCore : Mnemonic → Bool
  | .adc | .sbc | .and | .ora | .cpa | .cpx | .cpy | .asl | .lsr | .rol | .ror => true
  | .lda | .ldx | .ldy | .sta | .stx | .sty | .tax | .tay | .txa | .tya | .tsx | .txs | .inc | .dec
  | .inx | .iny | .dex | .dey | .eor | .bit | .clc | .sec | .cli | .sei | .cld | .sed | .clv | .nop
  | .bpl | .bmi | .bvc | .bvs | .bcc | .bcs | .bne | .beq | .jmp | .jsr | .rts | .pha | .pla => false

/-- What the instructions of a mnemonic do with their operand: the `class` column of R66 and R203 (R69, R201). -/
def Mnemonic.opClass : Mnemonic → OpClass
  | .adc | .sbc | .and | .ora | .cpa | .cpx | .cpy | .lda | .ldx | .ldy | .eor | .bit => .readOnly
  | .asl | .lsr | .rol | .ror | .inc | .dec => .readModifyWrite
  | .sta | .stx | .sty => .store
  | .bpl | .bmi | .bvc | .bvs | .bcc | .bcs | .bne | .beq => .branch
  | .jmp | .jsr | .rts => .jump
  | .pha | .pla => .stack
  | .tax | .tay | .txa | .tya | .tsx | .txs | .inx | .iny | .dex | .dey | .clc | .sec
  | .cli | .sei | .cld | .sed | .clv | .nop => .implied

/-- The mnemonic as `lookup` spells it (R65, R68: `CPA`, not `CMP`). -/
def Mnemonic.name : Mnemonic → String
  | .adc => "ADC"
  | .sbc => "SBC"
  | .and => "AND"
  | .ora => "ORA"
  | .cpa => "CPA"
  | .cpx => "CPX"
  | .cpy => "CPY"
  | .asl => "ASL"
  | .lsr => "LSR"
  | .rol => "ROL"
  | .ror => "ROR"
  | .lda => "LDA"
  | .ldx => "LDX"
  | .ldy => "LDY"
  | .sta => "STA"
  | .stx => "STX"
  | .sty => "STY"
  | .tax => "TAX"
  | .tay => "TAY"
  | .txa => "TXA"
  | .tya => "TYA"
  | .tsx => "TSX"
  | .txs => "TXS"
  | .inc => "INC"
  | .dec => "DEC"
  | .inx => "INX"
  | .iny => "INY"
  | .dex => "DEX"
  | .dey => "DEY"
  | .eor => "EOR"
  | .bit => "BIT"
  | .clc => "CLC"
  | .sec => "SEC"
  | .cli => "CLI"
  | .sei => "SEI"
  | .cld => "CLD"
  | .sed => "SED"
  | .clv => "CLV"
  | .nop => "NOP"
  | .bpl => "BPL"
  | .bmi => "BMI"
  | .bvc => "BVC"
  | .bvs => "BVS"
  | .bcc => "BCC"
  | .bcs => "BCS"
  | .bne => "BNE"
  | .beq => "BEQ"
  | .jmp => "JMP"
  | .jsr => "JSR"
  | .rts => "RTS"
  | .pha => "PHA"
  | .pla => "PLA"

end Sys2Proof
end

