-- ==== Sys2Proof/WellFormed.lean ====
section
/-! DEFINITION. When an instruction is one of the machine's: the profile admits its mnemonic. It is the only check:
the constructors of `Instr` are the legal (mnemonic, mode) pairs (R67, R203), and every operand value is legal (R71). -/

namespace Sys2Proof

/-- The mnemonics a profile admits: CORE the eleven of R3, EXT all (R200). -/
def Profile.admits : Profile → Mnemonic → Bool
  | .core, m => m.isCore
  | .ext, _ => true

/-- The instruction is one of the profile's. -/
def Instr.wellFormed (p : Profile) (i : Instr) : Bool := p.admits i.mnemonic

end Sys2Proof
end

