-- ==== Sys2Proof/Decode.lean ====
section
/-! DEFINITION. The decoder, total on any bytes, and after it the encoder. The opcode byte alone selects the
instruction (R61, R62); operand words are little-endian (R45). -/

namespace Sys2Proof

/-- The three formats of R61 as what is still to be read: nothing, a byte, or a word. -/
inductive Format where
  | f1 (i : Instr)
  | f2 (mk : Byte → Instr)
  | f3 (mk : Word → Instr)

/-- The format of the opcode bytes 0x00 to 0x1F (R66, R203). -/
def format0x1x : Nat → Option Format
  | 0x01 => some (.f2 .oraIzx)
  | 0x05 => some (.f2 .oraZpp)
  | 0x06 => some (.f2 .aslZpp)
  | 0x09 => some (.f2 .oraImm)
  | 0x0A => some (.f1 .aslAcc)
  | 0x0D => some (.f3 .oraAbs)
  | 0x0E => some (.f3 .aslAbs)
  | 0x10 => some (.f2 .bpl)
  | 0x11 => some (.f2 .oraIzy)
  | 0x15 => some (.f2 .oraZpx)
  | 0x16 => some (.f2 .aslZpx)
  | 0x18 => some (.f1 .clc)
  | 0x19 => some (.f3 .oraAby)
  | 0x1D => some (.f3 .oraAbx)
  | 0x1E => some (.f3 .aslAbx)
  | _ => none

/-- The format of the opcode bytes 0x20 to 0x3F (R66, R203). -/
def format2x3x : Nat → Option Format
  | 0x20 => some (.f3 .jsr)
  | 0x21 => some (.f2 .andIzx)
  | 0x24 => some (.f2 .bitZpp)
  | 0x25 => some (.f2 .andZpp)
  | 0x26 => some (.f2 .rolZpp)
  | 0x29 => some (.f2 .andImm)
  | 0x2A => some (.f1 .rolAcc)
  | 0x2C => some (.f3 .bitAbs)
  | 0x2D => some (.f3 .andAbs)
  | 0x2E => some (.f3 .rolAbs)
  | 0x30 => some (.f2 .bmi)
  | 0x31 => some (.f2 .andIzy)
  | 0x35 => some (.f2 .andZpx)
  | 0x36 => some (.f2 .rolZpx)
  | 0x38 => some (.f1 .sec)
  | 0x39 => some (.f3 .andAby)
  | 0x3D => some (.f3 .andAbx)
  | 0x3E => some (.f3 .rolAbx)
  | _ => none

/-- The format of the opcode bytes 0x40 to 0x5F (R66, R203). -/
def format4x5x : Nat → Option Format
  | 0x41 => some (.f2 .eorIzx)
  | 0x45 => some (.f2 .eorZpp)
  | 0x46 => some (.f2 .lsrZpp)
  | 0x48 => some (.f1 .pha)
  | 0x49 => some (.f2 .eorImm)
  | 0x4A => some (.f1 .lsrAcc)
  | 0x4C => some (.f3 .jmpAbs)
  | 0x4D => some (.f3 .eorAbs)
  | 0x4E => some (.f3 .lsrAbs)
  | 0x50 => some (.f2 .bvc)
  | 0x51 => some (.f2 .eorIzy)
  | 0x55 => some (.f2 .eorZpx)
  | 0x56 => some (.f2 .lsrZpx)
  | 0x58 => some (.f1 .cli)
  | 0x59 => some (.f3 .eorAby)
  | 0x5D => some (.f3 .eorAbx)
  | 0x5E => some (.f3 .lsrAbx)
  | _ => none

/-- The format of the opcode bytes 0x60 to 0x7F (R66, R203). -/
def format6x7x : Nat → Option Format
  | 0x60 => some (.f1 .rts)
  | 0x61 => some (.f2 .adcIzx)
  | 0x65 => some (.f2 .adcZpp)
  | 0x66 => some (.f2 .rorZpp)
  | 0x68 => some (.f1 .pla)
  | 0x69 => some (.f2 .adcImm)
  | 0x6A => some (.f1 .rorAcc)
  | 0x6C => some (.f3 .jmpInd)
  | 0x6D => some (.f3 .adcAbs)
  | 0x6E => some (.f3 .rorAbs)
  | 0x70 => some (.f2 .bvs)
  | 0x71 => some (.f2 .adcIzy)
  | 0x75 => some (.f2 .adcZpx)
  | 0x76 => some (.f2 .rorZpx)
  | 0x78 => some (.f1 .sei)
  | 0x79 => some (.f3 .adcAby)
  | 0x7D => some (.f3 .adcAbx)
  | 0x7E => some (.f3 .rorAbx)
  | _ => none

/-- The format of the opcode bytes 0x80 to 0x9F (R66, R203). -/
def format8x9x : Nat → Option Format
  | 0x81 => some (.f2 .staIzx)
  | 0x84 => some (.f2 .styZpp)
  | 0x85 => some (.f2 .staZpp)
  | 0x86 => some (.f2 .stxZpp)
  | 0x88 => some (.f1 .dey)
  | 0x8A => some (.f1 .txa)
  | 0x8C => some (.f3 .styAbs)
  | 0x8D => some (.f3 .staAbs)
  | 0x8E => some (.f3 .stxAbs)
  | 0x90 => some (.f2 .bcc)
  | 0x91 => some (.f2 .staIzy)
  | 0x94 => some (.f2 .styZpx)
  | 0x95 => some (.f2 .staZpx)
  | 0x96 => some (.f2 .stxZpy)
  | 0x98 => some (.f1 .tya)
  | 0x99 => some (.f3 .staAby)
  | 0x9A => some (.f1 .txs)
  | 0x9D => some (.f3 .staAbx)
  | _ => none

/-- The format of the opcode bytes 0xA0 to 0xBF (R66, R203). -/
def formatAxBx : Nat → Option Format
  | 0xA0 => some (.f2 .ldyImm)
  | 0xA1 => some (.f2 .ldaIzx)
  | 0xA2 => some (.f2 .ldxImm)
  | 0xA4 => some (.f2 .ldyZpp)
  | 0xA5 => some (.f2 .ldaZpp)
  | 0xA6 => some (.f2 .ldxZpp)
  | 0xA8 => some (.f1 .tay)
  | 0xA9 => some (.f2 .ldaImm)
  | 0xAA => some (.f1 .tax)
  | 0xAC => some (.f3 .ldyAbs)
  | 0xAD => some (.f3 .ldaAbs)
  | 0xAE => some (.f3 .ldxAbs)
  | 0xB0 => some (.f2 .bcs)
  | 0xB1 => some (.f2 .ldaIzy)
  | 0xB4 => some (.f2 .ldyZpx)
  | 0xB5 => some (.f2 .ldaZpx)
  | 0xB6 => some (.f2 .ldxZpy)
  | 0xB8 => some (.f1 .clv)
  | 0xB9 => some (.f3 .ldaAby)
  | 0xBA => some (.f1 .tsx)
  | 0xBC => some (.f3 .ldyAbx)
  | 0xBD => some (.f3 .ldaAbx)
  | 0xBE => some (.f3 .ldxAby)
  | _ => none

/-- The format of the opcode bytes 0xC0 to 0xDF (R66, R203). -/
def formatCxDx : Nat → Option Format
  | 0xC0 => some (.f2 .cpyImm)
  | 0xC1 => some (.f2 .cpaIzx)
  | 0xC4 => some (.f2 .cpyZpp)
  | 0xC5 => some (.f2 .cpaZpp)
  | 0xC6 => some (.f2 .decZpp)
  | 0xC8 => some (.f1 .iny)
  | 0xC9 => some (.f2 .cpaImm)
  | 0xCA => some (.f1 .dex)
  | 0xCC => some (.f3 .cpyAbs)
  | 0xCD => some (.f3 .cpaAbs)
  | 0xCE => some (.f3 .decAbs)
  | 0xD0 => some (.f2 .bne)
  | 0xD1 => some (.f2 .cpaIzy)
  | 0xD5 => some (.f2 .cpaZpx)
  | 0xD6 => some (.f2 .decZpx)
  | 0xD8 => some (.f1 .cld)
  | 0xD9 => some (.f3 .cpaAby)
  | 0xDD => some (.f3 .cpaAbx)
  | 0xDE => some (.f3 .decAbx)
  | _ => none

/-- The format of the opcode bytes 0xE0 to 0xFF (R66, R203). -/
def formatExFx : Nat → Option Format
  | 0xE0 => some (.f2 .cpxImm)
  | 0xE1 => some (.f2 .sbcIzx)
  | 0xE4 => some (.f2 .cpxZpp)
  | 0xE5 => some (.f2 .sbcZpp)
  | 0xE6 => some (.f2 .incZpp)
  | 0xE8 => some (.f1 .inx)
  | 0xE9 => some (.f2 .sbcImm)
  | 0xEA => some (.f1 .nop)
  | 0xEC => some (.f3 .cpxAbs)
  | 0xED => some (.f3 .sbcAbs)
  | 0xEE => some (.f3 .incAbs)
  | 0xF0 => some (.f2 .beq)
  | 0xF1 => some (.f2 .sbcIzy)
  | 0xF5 => some (.f2 .sbcZpx)
  | 0xF6 => some (.f2 .incZpx)
  | 0xF8 => some (.f1 .sed)
  | 0xF9 => some (.f3 .sbcAby)
  | 0xFD => some (.f3 .sbcAbx)
  | 0xFE => some (.f3 .incAbx)
  | _ => none

/-- The format of an opcode byte: one row of R66 or R203, or no entry (R70, R268). -/
def formatOf (op : Byte) : Option Format :=
  match op.toNat / 32 with
  | 0 => format0x1x op.toNat
  | 1 => format2x3x op.toNat
  | 2 => format4x5x op.toNat
  | 3 => format6x7x op.toNat
  | 4 => format8x9x op.toNat
  | 5 => formatAxBx op.toNat
  | 6 => formatCxDx op.toNat
  | _ => formatExFx op.toNat

/-- The instruction whose opcode is `op` and whose next two bytes are `b1` and `b2`; a format that has fewer operand
bytes does not look at the others. -/
def Format.read (f : Format) (b1 b2 : Byte) : Instr :=
  match f with
  | .f1 i => i
  | .f2 mk => mk b1
  | .f3 mk => mk (Machine.w16 b2 b1)

/-- Decoding at an instruction's first byte: the table lookup of R64 in the profile, `none` for an undefined opcode. -/
def decodeAt (p : Profile) (op b1 b2 : Byte) : Option Instr :=
  match formatOf op with
  | none => none
  | some f => if (f.read b1 b2).wellFormed p then some (f.read b1 b2) else none

/-- What decoding a list of bytes gives. -/
inductive Decoded where
  /-- An instruction and the bytes after it. -/
  | instr (i : Instr) (rest : List Byte)
  /-- The first byte has no entry in the profile's table (R70, R268). -/
  | undefinedOpcode (op : Byte)
  /-- The bytes end before the instruction does. -/
  | truncated
  deriving DecidableEq, Repr

/-- Decoding from a list of bytes in memory order (R60, R61), rejecting by name. -/
def decode (p : Profile) : List Byte → Decoded
  | [] => .truncated
  | op :: rest =>
    match decodeAt p op (rest.getD 0 0x00#8) (rest.getD 1 0x00#8) with
    | none => .undefinedOpcode op
    | some i =>
      if i.mode.operandBytes ≤ rest.length then .instr i (rest.drop i.mode.operandBytes) else .truncated

/-- The opcode byte of the instruction's row (R66, R203). -/
def Instr.opcode : Instr → Byte
  | .adcIzx _ => 0x61#8
  | .adcZpp _ => 0x65#8
  | .adcImm _ => 0x69#8
  | .adcAbs _ => 0x6D#8
  | .adcIzy _ => 0x71#8
  | .adcZpx _ => 0x75#8
  | .adcAby _ => 0x79#8
  | .adcAbx _ => 0x7D#8
  | .sbcIzx _ => 0xE1#8
  | .sbcZpp _ => 0xE5#8
  | .sbcImm _ => 0xE9#8
  | .sbcAbs _ => 0xED#8
  | .sbcIzy _ => 0xF1#8
  | .sbcZpx _ => 0xF5#8
  | .sbcAby _ => 0xF9#8
  | .sbcAbx _ => 0xFD#8
  | .andIzx _ => 0x21#8
  | .andZpp _ => 0x25#8
  | .andImm _ => 0x29#8
  | .andAbs _ => 0x2D#8
  | .andIzy _ => 0x31#8
  | .andZpx _ => 0x35#8
  | .andAby _ => 0x39#8
  | .andAbx _ => 0x3D#8
  | .oraIzx _ => 0x01#8
  | .oraZpp _ => 0x05#8
  | .oraImm _ => 0x09#8
  | .oraAbs _ => 0x0D#8
  | .oraIzy _ => 0x11#8
  | .oraZpx _ => 0x15#8
  | .oraAby _ => 0x19#8
  | .oraAbx _ => 0x1D#8
  | .cpaIzx _ => 0xC1#8
  | .cpaZpp _ => 0xC5#8
  | .cpaImm _ => 0xC9#8
  | .cpaAbs _ => 0xCD#8
  | .cpaIzy _ => 0xD1#8
  | .cpaZpx _ => 0xD5#8
  | .cpaAby _ => 0xD9#8
  | .cpaAbx _ => 0xDD#8
  | .cpxImm _ => 0xE0#8
  | .cpxZpp _ => 0xE4#8
  | .cpxAbs _ => 0xEC#8
  | .cpyImm _ => 0xC0#8
  | .cpyZpp _ => 0xC4#8
  | .cpyAbs _ => 0xCC#8
  | .aslZpp _ => 0x06#8
  | .aslAcc => 0x0A#8
  | .aslAbs _ => 0x0E#8
  | .aslZpx _ => 0x16#8
  | .aslAbx _ => 0x1E#8
  | .lsrZpp _ => 0x46#8
  | .lsrAcc => 0x4A#8
  | .lsrAbs _ => 0x4E#8
  | .lsrZpx _ => 0x56#8
  | .lsrAbx _ => 0x5E#8
  | .rolZpp _ => 0x26#8
  | .rolAcc => 0x2A#8
  | .rolAbs _ => 0x2E#8
  | .rolZpx _ => 0x36#8
  | .rolAbx _ => 0x3E#8
  | .rorZpp _ => 0x66#8
  | .rorAcc => 0x6A#8
  | .rorAbs _ => 0x6E#8
  | .rorZpx _ => 0x76#8
  | .rorAbx _ => 0x7E#8
  | .ldaIzx _ => 0xA1#8
  | .ldaZpp _ => 0xA5#8
  | .ldaImm _ => 0xA9#8
  | .ldaAbs _ => 0xAD#8
  | .ldaIzy _ => 0xB1#8
  | .ldaZpx _ => 0xB5#8
  | .ldaAby _ => 0xB9#8
  | .ldaAbx _ => 0xBD#8
  | .ldxImm _ => 0xA2#8
  | .ldxZpp _ => 0xA6#8
  | .ldxAbs _ => 0xAE#8
  | .ldxZpy _ => 0xB6#8
  | .ldxAby _ => 0xBE#8
  | .ldyImm _ => 0xA0#8
  | .ldyZpp _ => 0xA4#8
  | .ldyAbs _ => 0xAC#8
  | .ldyZpx _ => 0xB4#8
  | .ldyAbx _ => 0xBC#8
  | .staIzx _ => 0x81#8
  | .staZpp _ => 0x85#8
  | .staAbs _ => 0x8D#8
  | .staIzy _ => 0x91#8
  | .staZpx _ => 0x95#8
  | .staAby _ => 0x99#8
  | .staAbx _ => 0x9D#8
  | .stxZpp _ => 0x86#8
  | .stxAbs _ => 0x8E#8
  | .stxZpy _ => 0x96#8
  | .styZpp _ => 0x84#8
  | .styAbs _ => 0x8C#8
  | .styZpx _ => 0x94#8
  | .tax => 0xAA#8
  | .tay => 0xA8#8
  | .txa => 0x8A#8
  | .tya => 0x98#8
  | .tsx => 0xBA#8
  | .txs => 0x9A#8
  | .incZpp _ => 0xE6#8
  | .incAbs _ => 0xEE#8
  | .incZpx _ => 0xF6#8
  | .incAbx _ => 0xFE#8
  | .decZpp _ => 0xC6#8
  | .decAbs _ => 0xCE#8
  | .decZpx _ => 0xD6#8
  | .decAbx _ => 0xDE#8
  | .inx => 0xE8#8
  | .iny => 0xC8#8
  | .dex => 0xCA#8
  | .dey => 0x88#8
  | .eorIzx _ => 0x41#8
  | .eorZpp _ => 0x45#8
  | .eorImm _ => 0x49#8
  | .eorAbs _ => 0x4D#8
  | .eorIzy _ => 0x51#8
  | .eorZpx _ => 0x55#8
  | .eorAby _ => 0x59#8
  | .eorAbx _ => 0x5D#8
  | .bitZpp _ => 0x24#8
  | .bitAbs _ => 0x2C#8
  | .clc => 0x18#8
  | .sec => 0x38#8
  | .cli => 0x58#8
  | .sei => 0x78#8
  | .cld => 0xD8#8
  | .sed => 0xF8#8
  | .clv => 0xB8#8
  | .nop => 0xEA#8
  | .bpl _ => 0x10#8
  | .bmi _ => 0x30#8
  | .bvc _ => 0x50#8
  | .bvs _ => 0x70#8
  | .bcc _ => 0x90#8
  | .bcs _ => 0xB0#8
  | .bne _ => 0xD0#8
  | .beq _ => 0xF0#8
  | .jmpAbs _ => 0x4C#8
  | .jmpInd _ => 0x6C#8
  | .jsr _ => 0x20#8
  | .rts => 0x60#8
  | .pha => 0x48#8
  | .pla => 0x68#8

/-- The bytes of an instruction in memory order: the opcode, then the operand bytes (R60, R61, R63). -/
def encode (i : Instr) : List Byte := i.opcode :: i.arg.bytes

/-- Byte `k` of an instruction whose bits are numbered from the least significant bit of its first byte; every bit
from `nbits` on is 0. -/
def tableByte (nbits w k : Nat) : Byte := BitVec.ofNat 8 (w % 2 ^ nbits / 2 ^ (8 * k))

/-- What the decoder reads from an instruction whose bits are `w`, in the profile that `step` runs. -/
def decodeTableWord (nbits w : Nat) : Option Instr :=
  decodeAt Config.profile (tableByte nbits w 0) (tableByte nbits w 1) (tableByte nbits w 2)

end Sys2Proof
end

