-- ==== Sys2Proof/Machine/State.lean ====
section
/-! DEFINITION. The machine's whole state (10_state.md section 1), the reasons a tick can stop, and the state right
after reset. -/

namespace Sys2Proof.Machine

/-- The 65536-byte memory (R40, R44), held as the cells that differ from `Config.unlistedByte`, addresses strictly
rising (`Memory.wf` in Machine/Ops.lean). -/
abbrev Memory := List Host.Cell

/-- The state tuple of 10_state.md section 1, field by field, and the memory the Cpu references (R40).
Nothing else is state (R9, R28). -/
structure State where
  /-- The accumulator (R10, R11). -/
  A : Byte
  /-- Index register X (R10, R12). -/
  X : Byte
  /-- Index register Y (R10, R13). -/
  Y : Byte
  /-- The stack pointer (R14, R269). -/
  SP : Byte
  /-- The address of the next byte to fetch (R15). -/
  PC : Word
  /-- Carry (R18). -/
  C : Bool
  /-- Zero (R18). -/
  Z : Bool
  /-- Interrupt disable: stored, and read by nothing (R18, R24). -/
  I : Bool
  /-- Decimal: stored, and read by nothing (R18, R24). -/
  D : Bool
  /-- Overflow (R18). -/
  V : Bool
  /-- Negative (R18). -/
  N : Bool
  /-- Cycles remaining; 0 means ready to fetch (R25; log 10). -/
  CR : Nat
  /-- The memory (R40 to R44; log 12). -/
  mem : Memory
  deriving DecidableEq, Repr

/-- Why a tick faults. -/
inductive Fault where
  /-- R161: an Idle tick met the opcode byte `op`, which has no decode entry, at `addr`. Raised by
  `raiseUndefinedOpcode` from the Idle tick. The tick changes nothing. Safe: the spec's own decision D4. -/
  | undefinedOpcode (op : Byte) (addr : Word)
  deriving DecidableEq, Repr

/-- Why a tick is refused. -/
inductive Refusal where
  /-- An instruction of the table without a meaning. No arm of `exec` answers it. Safe. -/
  | notModelled (mnemonic : String)
  /-- R95: a write through an immediate operand, to which the spec gives no meaning. Raised by `operandWrite`; no
  instruction reaches it (log 9). Safe. -/
  | immediateDestination
  /-- A value, a place or an address asked of an operand that has none: any of them of R201's `Implied`, an address of
  `Acc` or `Imm`. Raised by `operandRead`, `operandWrite` and `operandAddress`; no instruction reaches it (log 9).
  Safe. -/
  | noOperand
  deriving DecidableEq, Repr

/-- What a tick, or an instruction, answers. -/
abbrev Result := Host.Outcome State Fault Refusal

/-- R31, R180 at the defaults of R5, on a memory with nothing listed: `PC` is the reset vector read there.
`Machine.construct` is the operation for any memory and any `INIT` values. -/
def State.reset : State :=
  { A := Config.init.A, X := Config.init.X, Y := Config.init.Y, SP := Config.init.SP
    PC := w16 Config.unlistedByte Config.unlistedByte
    C := Config.init.C, Z := Config.init.Z, I := Config.init.I
    D := Config.init.D, V := Config.init.V, N := Config.init.N
    CR := Config.init.CR, mem := [] }

end Sys2Proof.Machine
end

