-- ==== Sys2Proof/Machine/Ops.lean ====
section
/-! DEFINITION. The named operations over state and memory: one setter per register, flag and counter, the memory
interface, the stack, reset, raising the one fault, and the sequencing of outcomes. -/

namespace Sys2Proof.Machine

/-- `A <- v`. -/
def State.setA (v : Byte) (s : State) : State := { s with A := v }

/-- `X <- v`. -/
def State.setX (v : Byte) (s : State) : State := { s with X := v }

/-- `Y <- v`. -/
def State.setY (v : Byte) (s : State) : State := { s with Y := v }

/-- `SP <- v`. -/
def State.setSP (v : Byte) (s : State) : State := { s with SP := v }

/-- `PC <- v`. -/
def State.setPC (v : Word) (s : State) : State := { s with PC := v }

/-- `C <- v`. -/
def State.setC (v : Bool) (s : State) : State := { s with C := v }

/-- `Z <- v`. -/
def State.setZ (v : Bool) (s : State) : State := { s with Z := v }

/-- `I <- v`. -/
def State.setI (v : Bool) (s : State) : State := { s with I := v }

/-- `D <- v`. -/
def State.setD (v : Bool) (s : State) : State := { s with D := v }

/-- `V <- v`. -/
def State.setV (v : Bool) (s : State) : State := { s with V := v }

/-- `N <- v`. -/
def State.setN (v : Bool) (s : State) : State := { s with N := v }

/-- `CR <- v`. -/
def State.setCR (v : Nat) (s : State) : State := { s with CR := v }

/-- The memory's canonical form: addresses of the space, strictly rising, and no cell that an unlisted address
already reads as. -/
abbrev Memory.wf (m : Memory) : Prop :=
  m.Pairwise (fun p q => p.1 < q.1) ∧ ∀ p ∈ m, p.1 < 65536 ∧ p.2 ≠ Config.unlistedByte

/-- The byte at `a`: the first cell listed for it, else `Config.unlistedByte`. -/
def Memory.read : Memory → Nat → Byte
  | [], _ => Config.unlistedByte
  | (k, b) :: m, a => if k = a then b else Memory.read m a

/-- `m` without any cell for `a`. -/
def Memory.erase (m : Memory) (a : Nat) : Memory := m.filter fun p => p.1 != a

/-- `m` with a cell for `a` put before the first cell of a higher address. -/
def Memory.insert (a : Nat) (v : Byte) : Memory → Memory
  | [] => [(a, v)]
  | (k, b) :: m => if a < k then (a, v) :: (k, b) :: m else (k, b) :: Memory.insert a v m

/-- The memory after byte `v` is written at `a`; a byte an unlisted address reads as is not listed. -/
def Memory.write (m : Memory) (a : Nat) (v : Byte) : Memory :=
  if v = Config.unlistedByte then m.erase a else Memory.insert a v (m.erase a)

/-- `MemRead(a, 1)` (R41): total, without side effect. -/
def State.read (s : State) (a : Word) : Byte := s.mem.read a.toNat

/-- `MemWrite(a, 1, v)` (R42): total, and changes one byte. -/
def State.write (a : Word) (v : Byte) (s : State) : State := { s with mem := s.mem.write a.toNat v }

/-- The advance of `PC` past `k` fetched bytes, modulo 65536 (R16, R17, R80). -/
def State.advancePC (k : Nat) (s : State) : State := s.setPC (s.PC + BitVec.ofNat 16 k)

/-- The address of the stack byte that `SP` names: `0x0100 | SP` (R269). -/
def stackAddress (sp : Byte) : Word := Config.stackPage ||| zext16 sp

/-- `Push(v)` (R269): write, then decrement `SP` modulo 256. -/
def State.push (v : Byte) (s : State) : State := (s.write (stackAddress s.SP) v).setSP (s.SP - 1)

/-- The byte `Pull()` returns (R269): that at the incremented `SP`. -/
def State.pulled (s : State) : Byte := s.read (stackAddress (s.SP + 1))

/-- What `Pull()` leaves (R269): `SP` incremented modulo 256. -/
def State.pull (s : State) : State := s.setSP (s.SP + 1)

/-- `raise UndefinedOpcode(op, addr)` (R161), the one exception of the machine. There is no trap entry: nothing is
saved, no vector is taken, no state changes (R167), and there is nothing to return from (R168). This is the parameter
`UNDEFINED_OPCODE == fault` (R5). -/
def raiseUndefinedOpcode (op : Byte) (addr : Word) : Result := .fault (.undefinedOpcode op addr)

/-- The initial `PC` (R180): the little-endian word at the reset vector. -/
def resetTarget (m : Memory) : Word :=
  w16 (m.read Config.resetVectorHigh.toNat) (m.read Config.resetVectorLow.toNat)

/-- Construction (R181): a Cpu on memory `m` with the starting register state `p`. -/
def construct (p : Init) (m : Memory) : State :=
  { A := p.A, X := p.X, Y := p.Y, SP := p.SP, PC := resetTarget m
    C := p.C, Z := p.Z, I := p.I, D := p.D, V := p.V, N := p.N, CR := p.CR, mem := m }

/-- `Reset()` (R180, R182): whatever `CR` was, everything but memory is initialised again from `p` and the vector. -/
def resetAgain (p : Init) (s : State) : State := construct p s.mem

/-- Sequencing: the first stop is the answer, else `f` goes on from the value. -/
def andThen {α β : Type} (o : Host.Outcome α Fault Refusal)
    (f : α → Host.Outcome β Fault Refusal) : Host.Outcome β Fault Refusal :=
  match o with
  | .next a => f a
  | .fault r => .fault r
  | .refused r => .refused r

end Sys2Proof.Machine
end

