-- ==== Sys2Proof/Machine/Flags.lean ====
section
/-! DEFINITION. Every flag computation and every byte-level function of the arithmetic, logic, compare and shift
rules. Each computes on exact integers and narrows at the end. -/

namespace Sys2Proof.Machine

/-- `SetZN(v)` (R23). -/
def setZN (v : Byte) (s : State) : State := (s.setZ (v == 0x00#8)).setN (bit v 7)

/-- The 9-bit result of an addition, and its signed overflow (R101, R102). -/
structure Sum where
  result : Byte
  carry : Bool
  overflow : Bool
  deriving DecidableEq, Repr

/-- R101: `sum = A + M + b2n(C)`, narrowed to a byte, with its carry and its signed overflow. -/
def addBytes (a m : Byte) (c : Bool) : Sum :=
  let sum := a.toNat + m.toNat + b2n c
  let r := BitVec.ofNat 8 sum
  { result := r
    carry := decide (0xFF < sum)
    overflow := ((a ^^^ r) &&& (m ^^^ r) &&& 0x80#8) != 0x00#8 }

/-- R102: the addition of the one's complement `(~M) & 0xFF`. -/
def subBytes (a m : Byte) (c : Bool) : Sum := addBytes a (~~~m) c

/-- R101, R102: `A`, `C`, `V`, `Z` and `N` from a sum. -/
def storeSum (r : Sum) (s : State) : State :=
  setZN r.result (((s.setC r.carry).setV r.overflow).setA r.result)

/-- R120: the flags of a comparison of the register value `rg` with `m`; nothing is stored. -/
def compareFlags (rg m : Byte) (s : State) : State :=
  ((s.setC (decide (m.toNat ≤ rg.toNat))).setZ (rg == m)).setN (bit (rg - m) 7)

/-- R223: `Z` from `A & M`, `N` and `V` from bits 7 and 6 of `M`. -/
def bitFlags (m : Byte) (s : State) : State :=
  ((s.setZ ((s.A &&& m) == 0x00#8)).setN (bit m 7)).setV (bit m 6)

/-- A shift's result and the bit shifted out. -/
structure Shifted where
  result : Byte
  carryOut : Bool
  deriving DecidableEq, Repr

/-- R131: `result = (input << 1) & 0xFF`, `cout = bit(input, 7)`. -/
def asl (input : Byte) (_ : Bool) : Shifted := ⟨input <<< 1, bit input 7⟩

/-- R132: `result = input >> 1`, `cout = bit(input, 0)`. -/
def lsr (input : Byte) (_ : Bool) : Shifted := ⟨input >>> 1, bit input 0⟩

/-- R133: `result = ((input << 1) | b2n(cin)) & 0xFF`, `cout = bit(input, 7)`. -/
def rol (input : Byte) (cin : Bool) : Shifted :=
  ⟨(input <<< 1) ||| BitVec.ofNat 8 (b2n cin), bit input 7⟩

/-- R134: `result = (input >> 1) | (b2n(cin) << 7)`, `cout = bit(input, 0)`. -/
def ror (input : Byte) (cin : Bool) : Shifted :=
  ⟨(input >>> 1) ||| (BitVec.ofNat 8 (b2n cin) <<< 7), bit input 0⟩

end Sys2Proof.Machine
end

