-- ==== Sys2Proof/Machine/Operands.lean ====
section
/-! DEFINITION. The addressing-mode resolver and the operand read and write primitives (40_addressing_modes.md,
49_extension_control.md section 1), and the part of the Idle tick that every instruction shares: advance `PC`, resolve,
run the effect, load the countdown (R142, R201). -/

namespace Sys2Proof.Machine

/-- What a resolver yields (R81, R201). -/
inductive Operand where
  | acc
  | imm (v : Byte)
  | addr (a : Word)
  | implied
  deriving DecidableEq, Repr

/-- The pair `(operand, crossed)` of R81. -/
structure Resolved where
  operand : Operand
  crossed : Bool
  deriving DecidableEq, Repr

/-- `base + ix` as a full 16-bit addition, with its page-cross flag (R88, R89, R91, R93). -/
def indexed (base : Word) (ix : Byte) : Resolved :=
  let a := base + zext16 ix
  ⟨.addr a, hi a != hi base⟩

/-- The word at zero-page pointer `p`; its high byte is at `(p + 1) & 0xFF` (R90, R91). -/
def zeroPageWord (p : Byte) (s : State) : Word := w16 (s.read (zext16 (p + 1))) (s.read (zext16 p))

/-- The word at pointer `w`; its high byte is in the same page as its low byte (R253). -/
def samePageWord (w : Word) (s : State) : Word := w16 (s.read (w16 (hi w) (lo w + 1))) (s.read w)

/-- `Resolve(mode)` on a state whose `PC` is past the instruction (R82 to R91, R251 to R253); the operand bytes are
those `arg` holds. -/
def resolve (arg : ModeArg) (s : State) : Resolved :=
  match arg with
  | .acc => ⟨.acc, false⟩
  | .imp => ⟨.implied, false⟩
  | .imm v => ⟨.imm v, false⟩
  | .zpp b => ⟨.addr (zext16 b), false⟩
  | .zpx b => ⟨.addr (zext16 (b + s.X)), false⟩
  | .zpy b => ⟨.addr (zext16 (b + s.Y)), false⟩
  | .abs w => ⟨.addr w, false⟩
  | .abx w => indexed w s.X
  | .aby w => indexed w s.Y
  | .izx b => ⟨.addr (zeroPageWord (b + s.X) s), false⟩
  | .izy b => indexed (zeroPageWord b s) s.Y
  | .ind w => ⟨.addr (samePageWord w s), false⟩
  | .rel d => ⟨.addr (s.PC + sext16 d), hi (s.PC + sext16 d) != hi s.PC⟩

/-- `OperandRead(operand)` (R94); `Implied` has no value. -/
def operandRead (o : Operand) (s : State) : Host.Outcome Byte Fault Refusal :=
  match o with
  | .acc => .next s.A
  | .imm v => .next v
  | .addr a => .next (s.read a)
  | .implied => .refused .noOperand

/-- `OperandWrite(operand, v)` (R95); the `Imm` arm has no meaning there, and `Implied` has no place. -/
def operandWrite (o : Operand) (v : Byte) (s : State) : Result :=
  match o with
  | .acc => .next (s.setA v)
  | .addr a => .next (s.write a v)
  | .imm _ => .refused .immediateDestination
  | .implied => .refused .noOperand

/-- The address of an operand `Addr(a)`: a branch's or a jump's target (R254, R263, R264). -/
def operandAddress (o : Operand) : Host.Outcome Word Fault Refusal :=
  match o with
  | .addr a => .next a
  | .acc | .imm _ | .implied => .refused .noOperand

/-- What an effect leaves: the state, and the extra cycles it returns (R201). -/
structure Effected where
  state : State
  extra : Nat
  deriving DecidableEq, Repr

/-- An effect: a function of the resolved operand, the page-cross flag (which only a branch reads, R254) and the
state. -/
abbrev Effect := Operand → Bool → State → Host.Outcome Effected Fault Refusal

/-- `baseCycles + (1 if (crossed and isReadOnly) else 0) + extra` (R144, R201). -/
def cost (base : Nat) (isReadOnly crossed : Bool) (extra : Nat) : Nat :=
  base + b2n (crossed && isReadOnly) + extra

/-- The Idle tick from the advance of `PC` on (R142): past the instruction's bytes, resolve, effect,
`CR <- cost - 1`. -/
def runEntry (base : Nat) (isReadOnly : Bool) (arg : ModeArg) (effect : Effect) (s : State) : Result :=
  let s₁ := s.advancePC (1 + arg.mode.operandBytes)
  let r := resolve arg s₁
  andThen (effect r.operand r.crossed s₁) fun e =>
    .next (e.state.setCR (cost base isReadOnly r.crossed e.extra - 1))

/-- A read-only instruction (R69, R201): `f` takes the value of the operand. -/
def readOnly (base : Nat) (arg : ModeArg) (f : Byte → State → State) (s : State) : Result :=
  runEntry base true arg (fun o _ s => andThen (operandRead o s) fun m => .next ⟨f m s, 0⟩) s

/-- `ShiftOp(f, operand)` (R135): read once, compute with the carry, write once, then `C`, `Z` and `N`. -/
def shiftOp (base : Nat) (arg : ModeArg) (f : Byte → Bool → Shifted) (s : State) : Result :=
  runEntry base false arg (fun o _ s =>
    andThen (operandRead o s) fun m =>
      let r := f m s.C
      andThen (operandWrite o r.result s) fun s' => .next ⟨setZN r.result (s'.setC r.carryOut), 0⟩) s

/-- INC and DEC (R216, R217): read, compute, write back, `SetZN`. -/
def modify (base : Nat) (arg : ModeArg) (f : Byte → Byte) (s : State) : Result :=
  runEntry base false arg (fun o _ s =>
    andThen (operandRead o s) fun m =>
      andThen (operandWrite o (f m) s) fun s' => .next ⟨setZN (f m) s', 0⟩) s

/-- A store (R207 to R209): `MemWrite(a, 1, v)`, the operand not read first, no flag. -/
def store (base : Nat) (arg : ModeArg) (v : State → Byte) (s : State) : Result :=
  runEntry base false arg (fun o _ s => andThen (operandWrite o (v s) s) fun s' => .next ⟨s', 0⟩) s

/-- An instruction without operand (R251): `f` on the state whose `PC` is past its byte. -/
def implied (base : Nat) (f : State → State) (s : State) : Result :=
  runEntry base false .imp (fun _ _ s => .next ⟨f s, 0⟩) s

/-- An instruction that goes on from the address its operand names: `f` makes the state, with `PC` written
(R263, R264). -/
def jump (base : Nat) (arg : ModeArg) (f : Word → State → State) (s : State) : Result :=
  runEntry base false arg (fun o _ s => andThen (operandAddress o) fun a => .next ⟨f a s, 0⟩) s

/-- `Branch(cond, operand, crossed)` (R254): base 2 cycles, 1 more if taken, 1 more again to another page. -/
def branch (cond : State → Bool) (d : Byte) (s : State) : Result :=
  runEntry 2 false (.rel d) (fun o crossed s =>
    if cond s then andThen (operandAddress o) fun a => .next ⟨s.setPC a, 1 + b2n crossed⟩
    else .next ⟨s, 0⟩) s

end Sys2Proof.Machine
end

