-- ==== Sys2Proof/Machine/AddSubtract.lean ====
section
/-! DEFINITION. ADC and SBC (41_add_subtract.md). Both ignore `D` (R104):
the parameter `DECIMAL == ignored` (R5; log 4).
One meaning per row of the table; its first number is the row's base cycles. -/

namespace Sys2Proof.Machine

/-- R101: the effect of ADC on an operand of value `m`. -/
def adcEffect (m : Byte) (s : State) : State := storeSum (addBytes s.A m s.C) s

/-- R102: the effect of SBC on an operand of value `m`. -/
def sbcEffect (m : Byte) (s : State) : State := storeSum (subBytes s.A m s.C) s

/-- ADC, opcode 0x61, mode IZX (R101, R90). -/
def execAdcIzx (b : Byte) (s : State) : Result := readOnly 6 (.izx b) adcEffect s

/-- ADC, opcode 0x65, mode ZPP (R101, R84). -/
def execAdcZpp (b : Byte) (s : State) : Result := readOnly 3 (.zpp b) adcEffect s

/-- ADC, opcode 0x69, mode IMM (R101, R83). -/
def execAdcImm (v : Byte) (s : State) : Result := readOnly 2 (.imm v) adcEffect s

/-- ADC, opcode 0x6D, mode ABS (R101, R87). -/
def execAdcAbs (w : Word) (s : State) : Result := readOnly 4 (.abs w) adcEffect s

/-- ADC, opcode 0x71, mode IZY (R101, R91). -/
def execAdcIzy (b : Byte) (s : State) : Result := readOnly 5 (.izy b) adcEffect s

/-- ADC, opcode 0x75, mode ZPX (R101, R85). -/
def execAdcZpx (b : Byte) (s : State) : Result := readOnly 4 (.zpx b) adcEffect s

/-- ADC, opcode 0x79, mode ABY (R101, R89). -/
def execAdcAby (w : Word) (s : State) : Result := readOnly 4 (.aby w) adcEffect s

/-- ADC, opcode 0x7D, mode ABX (R101, R88). -/
def execAdcAbx (w : Word) (s : State) : Result := readOnly 4 (.abx w) adcEffect s

/-- SBC, opcode 0xE1, mode IZX (R102, R90). -/
def execSbcIzx (b : Byte) (s : State) : Result := readOnly 6 (.izx b) sbcEffect s

/-- SBC, opcode 0xE5, mode ZPP (R102, R84). -/
def execSbcZpp (b : Byte) (s : State) : Result := readOnly 3 (.zpp b) sbcEffect s

/-- SBC, opcode 0xE9, mode IMM (R102, R83). -/
def execSbcImm (v : Byte) (s : State) : Result := readOnly 2 (.imm v) sbcEffect s

/-- SBC, opcode 0xED, mode ABS (R102, R87). -/
def execSbcAbs (w : Word) (s : State) : Result := readOnly 4 (.abs w) sbcEffect s

/-- SBC, opcode 0xF1, mode IZY (R102, R91). -/
def execSbcIzy (b : Byte) (s : State) : Result := readOnly 5 (.izy b) sbcEffect s

/-- SBC, opcode 0xF5, mode ZPX (R102, R85). -/
def execSbcZpx (b : Byte) (s : State) : Result := readOnly 4 (.zpx b) sbcEffect s

/-- SBC, opcode 0xF9, mode ABY (R102, R89). -/
def execSbcAby (w : Word) (s : State) : Result := readOnly 4 (.aby w) sbcEffect s

/-- SBC, opcode 0xFD, mode ABX (R102, R88). -/
def execSbcAbx (w : Word) (s : State) : Result := readOnly 4 (.abx w) sbcEffect s

end Sys2Proof.Machine
end

