-- ==== Sys2Proof/Machine/Branch.lean ====
section
/-! DEFINITION. The conditional branches of profile EXT (49_extension_control.md section 2; log 11).
One meaning per row of the table; the base cost is in `branch`. -/

namespace Sys2Proof.Machine

/-- BPL, opcode 0x10, mode REL (R255, R252). -/
def execBpl (d : Byte) (s : State) : Result := branch (fun s => !s.N) d s

/-- BMI, opcode 0x30, mode REL (R256, R252). -/
def execBmi (d : Byte) (s : State) : Result := branch (fun s => s.N) d s

/-- BVC, opcode 0x50, mode REL (R257, R252). -/
def execBvc (d : Byte) (s : State) : Result := branch (fun s => !s.V) d s

/-- BVS, opcode 0x70, mode REL (R258, R252). -/
def execBvs (d : Byte) (s : State) : Result := branch (fun s => s.V) d s

/-- BCC, opcode 0x90, mode REL (R259, R252). -/
def execBcc (d : Byte) (s : State) : Result := branch (fun s => !s.C) d s

/-- BCS, opcode 0xB0, mode REL (R260, R252). -/
def execBcs (d : Byte) (s : State) : Result := branch (fun s => s.C) d s

/-- BNE, opcode 0xD0, mode REL (R261, R252). -/
def execBne (d : Byte) (s : State) : Result := branch (fun s => !s.Z) d s

/-- BEQ, opcode 0xF0, mode REL (R262, R252). -/
def execBeq (d : Byte) (s : State) : Result := branch (fun s => s.Z) d s

end Sys2Proof.Machine
end

