-- ==== Sys2Proof/Machine/Compare.lean ====
section
/-! DEFINITION. CPA (the assembler's CMP, R68), CPX and CPY (43_compare.md).
One meaning per row of the table; its first number is the row's base cycles. -/

namespace Sys2Proof.Machine

/-- R121: `Compare(A, operand)`. -/
def cpaEffect (m : Byte) (s : State) : State := compareFlags s.A m s

/-- R122: `Compare(X, operand)`. -/
def cpxEffect (m : Byte) (s : State) : State := compareFlags s.X m s

/-- R123: `Compare(Y, operand)`. -/
def cpyEffect (m : Byte) (s : State) : State := compareFlags s.Y m s

/-- CPA, opcode 0xC1, mode IZX (R121, R90). -/
def execCpaIzx (b : Byte) (s : State) : Result := readOnly 6 (.izx b) cpaEffect s

/-- CPA, opcode 0xC5, mode ZPP (R121, R84). -/
def execCpaZpp (b : Byte) (s : State) : Result := readOnly 3 (.zpp b) cpaEffect s

/-- CPA, opcode 0xC9, mode IMM (R121, R83). -/
def execCpaImm (v : Byte) (s : State) : Result := readOnly 2 (.imm v) cpaEffect s

/-- CPA, opcode 0xCD, mode ABS (R121, R87). -/
def execCpaAbs (w : Word) (s : State) : Result := readOnly 4 (.abs w) cpaEffect s

/-- CPA, opcode 0xD1, mode IZY (R121, R91). -/
def execCpaIzy (b : Byte) (s : State) : Result := readOnly 5 (.izy b) cpaEffect s

/-- CPA, opcode 0xD5, mode ZPX (R121, R85). -/
def execCpaZpx (b : Byte) (s : State) : Result := readOnly 4 (.zpx b) cpaEffect s

/-- CPA, opcode 0xD9, mode ABY (R121, R89). -/
def execCpaAby (w : Word) (s : State) : Result := readOnly 4 (.aby w) cpaEffect s

/-- CPA, opcode 0xDD, mode ABX (R121, R88). -/
def execCpaAbx (w : Word) (s : State) : Result := readOnly 4 (.abx w) cpaEffect s

/-- CPX, opcode 0xE0, mode IMM (R122, R83). -/
def execCpxImm (v : Byte) (s : State) : Result := readOnly 2 (.imm v) cpxEffect s

/-- CPX, opcode 0xE4, mode ZPP (R122, R84). -/
def execCpxZpp (b : Byte) (s : State) : Result := readOnly 3 (.zpp b) cpxEffect s

/-- CPX, opcode 0xEC, mode ABS (R122, R87). -/
def execCpxAbs (w : Word) (s : State) : Result := readOnly 4 (.abs w) cpxEffect s

/-- CPY, opcode 0xC0, mode IMM (R123, R83). -/
def execCpyImm (v : Byte) (s : State) : Result := readOnly 2 (.imm v) cpyEffect s

/-- CPY, opcode 0xC4, mode ZPP (R123, R84). -/
def execCpyZpp (b : Byte) (s : State) : Result := readOnly 3 (.zpp b) cpyEffect s

/-- CPY, opcode 0xCC, mode ABS (R123, R87). -/
def execCpyAbs (w : Word) (s : State) : Result := readOnly 4 (.abs w) cpyEffect s

end Sys2Proof.Machine
end

