-- ==== Sys2Proof/Machine/Logical.lean ====
section
/-! DEFINITION. AND and ORA (42_logical.md).
One meaning per row of the table; its first number is the row's base cycles. -/

namespace Sys2Proof.Machine

/-- A result stored in the accumulator, with `Z` and `N` from it (R111, R112, R222). -/
def storeA (r : Byte) (s : State) : State := setZN r (s.setA r)

/-- R111: the effect of AND on an operand of value `m`. -/
def andEffect (m : Byte) (s : State) : State := storeA (s.A &&& m) s

/-- R112: the effect of ORA on an operand of value `m`. -/
def oraEffect (m : Byte) (s : State) : State := storeA (s.A ||| m) s

/-- AND, opcode 0x21, mode IZX (R111, R90). -/
def execAndIzx (b : Byte) (s : State) : Result := readOnly 6 (.izx b) andEffect s

/-- AND, opcode 0x25, mode ZPP (R111, R84). -/
def execAndZpp (b : Byte) (s : State) : Result := readOnly 3 (.zpp b) andEffect s

/-- AND, opcode 0x29, mode IMM (R111, R83). -/
def execAndImm (v : Byte) (s : State) : Result := readOnly 2 (.imm v) andEffect s

/-- AND, opcode 0x2D, mode ABS (R111, R87). -/
def execAndAbs (w : Word) (s : State) : Result := readOnly 4 (.abs w) andEffect s

/-- AND, opcode 0x31, mode IZY (R111, R91). -/
def execAndIzy (b : Byte) (s : State) : Result := readOnly 5 (.izy b) andEffect s

/-- AND, opcode 0x35, mode ZPX (R111, R85). -/
def execAndZpx (b : Byte) (s : State) : Result := readOnly 4 (.zpx b) andEffect s

/-- AND, opcode 0x39, mode ABY (R111, R89). -/
def execAndAby (w : Word) (s : State) : Result := readOnly 4 (.aby w) andEffect s

/-- AND, opcode 0x3D, mode ABX (R111, R88). -/
def execAndAbx (w : Word) (s : State) : Result := readOnly 4 (.abx w) andEffect s

/-- ORA, opcode 0x01, mode IZX (R112, R90). -/
def execOraIzx (b : Byte) (s : State) : Result := readOnly 6 (.izx b) oraEffect s

/-- ORA, opcode 0x05, mode ZPP (R112, R84). -/
def execOraZpp (b : Byte) (s : State) : Result := readOnly 3 (.zpp b) oraEffect s

/-- ORA, opcode 0x09, mode IMM (R112, R83). -/
def execOraImm (v : Byte) (s : State) : Result := readOnly 2 (.imm v) oraEffect s

/-- ORA, opcode 0x0D, mode ABS (R112, R87). -/
def execOraAbs (w : Word) (s : State) : Result := readOnly 4 (.abs w) oraEffect s

/-- ORA, opcode 0x11, mode IZY (R112, R91). -/
def execOraIzy (b : Byte) (s : State) : Result := readOnly 5 (.izy b) oraEffect s

/-- ORA, opcode 0x15, mode ZPX (R112, R85). -/
def execOraZpx (b : Byte) (s : State) : Result := readOnly 4 (.zpx b) oraEffect s

/-- ORA, opcode 0x19, mode ABY (R112, R89). -/
def execOraAby (w : Word) (s : State) : Result := readOnly 4 (.aby w) oraEffect s

/-- ORA, opcode 0x1D, mode ABX (R112, R88). -/
def execOraAbx (w : Word) (s : State) : Result := readOnly 4 (.abx w) oraEffect s

end Sys2Proof.Machine
end

