-- ==== Sys2Proof/Machine/EorBit.lean ====
section
/-! DEFINITION. EOR and BIT of profile EXT (48_extension_data.md section 6; log 11).
One meaning per row of the table; its first number is the row's base cycles. -/

namespace Sys2Proof.Machine

/-- R222: the effect of EOR on an operand of value `m`. -/
def eorEffect (m : Byte) (s : State) : State := storeA (s.A ^^^ m) s

/-- EOR, opcode 0x41, mode IZX (R222, R90). -/
def execEorIzx (b : Byte) (s : State) : Result := readOnly 6 (.izx b) eorEffect s

/-- EOR, opcode 0x45, mode ZPP (R222, R84). -/
def execEorZpp (b : Byte) (s : State) : Result := readOnly 3 (.zpp b) eorEffect s

/-- EOR, opcode 0x49, mode IMM (R222, R83). -/
def execEorImm (v : Byte) (s : State) : Result := readOnly 2 (.imm v) eorEffect s

/-- EOR, opcode 0x4D, mode ABS (R222, R87). -/
def execEorAbs (w : Word) (s : State) : Result := readOnly 4 (.abs w) eorEffect s

/-- EOR, opcode 0x51, mode IZY (R222, R91). -/
def execEorIzy (b : Byte) (s : State) : Result := readOnly 5 (.izy b) eorEffect s

/-- EOR, opcode 0x55, mode ZPX (R222, R85). -/
def execEorZpx (b : Byte) (s : State) : Result := readOnly 4 (.zpx b) eorEffect s

/-- EOR, opcode 0x59, mode ABY (R222, R89). -/
def execEorAby (w : Word) (s : State) : Result := readOnly 4 (.aby w) eorEffect s

/-- EOR, opcode 0x5D, mode ABX (R222, R88). -/
def execEorAbx (w : Word) (s : State) : Result := readOnly 4 (.abx w) eorEffect s

/-- BIT, opcode 0x24, mode ZPP (R223, R84). -/
def execBitZpp (b : Byte) (s : State) : Result := readOnly 3 (.zpp b) bitFlags s

/-- BIT, opcode 0x2C, mode ABS (R223, R87). -/
def execBitAbs (w : Word) (s : State) : Result := readOnly 4 (.abs w) bitFlags s

end Sys2Proof.Machine
end

