-- ==== Sys2Proof/Machine/FlagOps.lean ====
section
/-! DEFINITION. The flag instructions and NOP of profile EXT (48_extension_data.md section 7; log 11).
One meaning per row of the table; its first number is the row's base cycles. -/

namespace Sys2Proof.Machine

/-- CLC, opcode 0x18, mode IMP (R224, R251). -/
def execClc (s : State) : Result := implied 2 (State.setC false) s

/-- SEC, opcode 0x38, mode IMP (R225, R251). -/
def execSec (s : State) : Result := implied 2 (State.setC true) s

/-- CLI, opcode 0x58, mode IMP (R226, R251). -/
def execCli (s : State) : Result := implied 2 (State.setI false) s

/-- SEI, opcode 0x78, mode IMP (R227, R251). -/
def execSei (s : State) : Result := implied 2 (State.setI true) s

/-- CLD, opcode 0xD8, mode IMP (R228, R251). -/
def execCld (s : State) : Result := implied 2 (State.setD false) s

/-- SED, opcode 0xF8, mode IMP (R229, R251). -/
def execSed (s : State) : Result := implied 2 (State.setD true) s

/-- CLV, opcode 0xB8, mode IMP (R230, R251). -/
def execClv (s : State) : Result := implied 2 (State.setV false) s

/-- NOP, opcode 0xEA, mode IMP (R231, R251). -/
def execNop (s : State) : Result := implied 2 id s

end Sys2Proof.Machine
end

