-- ==== Sys2Proof/Machine/IncDec.lean ====
section
/-! DEFINITION. The increments and decrements of profile EXT (48_extension_data.md section 5; log 11).
One meaning per row of the table; its first number is the row's base cycles. -/

namespace Sys2Proof.Machine

/-- `(v + 1) & 0xFF`. -/
def incByte (v : Byte) : Byte := v + 1

/-- `(v - 1) & 0xFF`. -/
def decByte (v : Byte) : Byte := v - 1

/-- INC, opcode 0xE6, mode ZPP (R216, R84). -/
def execIncZpp (b : Byte) (s : State) : Result := modify 5 (.zpp b) incByte s

/-- INC, opcode 0xEE, mode ABS (R216, R87). -/
def execIncAbs (w : Word) (s : State) : Result := modify 6 (.abs w) incByte s

/-- INC, opcode 0xF6, mode ZPX (R216, R85). -/
def execIncZpx (b : Byte) (s : State) : Result := modify 6 (.zpx b) incByte s

/-- INC, opcode 0xFE, mode ABX (R216, R88). -/
def execIncAbx (w : Word) (s : State) : Result := modify 7 (.abx w) incByte s

/-- DEC, opcode 0xC6, mode ZPP (R217, R84). -/
def execDecZpp (b : Byte) (s : State) : Result := modify 5 (.zpp b) decByte s

/-- DEC, opcode 0xCE, mode ABS (R217, R87). -/
def execDecAbs (w : Word) (s : State) : Result := modify 6 (.abs w) decByte s

/-- DEC, opcode 0xD6, mode ZPX (R217, R85). -/
def execDecZpx (b : Byte) (s : State) : Result := modify 6 (.zpx b) decByte s

/-- DEC, opcode 0xDE, mode ABX (R217, R88). -/
def execDecAbx (w : Word) (s : State) : Result := modify 7 (.abx w) decByte s

/-- INX, opcode 0xE8, mode IMP (R218, R251). -/
def execInx (s : State) : Result :=
  implied 2 (fun s => setZN (incByte s.X) (s.setX (incByte s.X))) s

/-- INY, opcode 0xC8, mode IMP (R219, R251). -/
def execIny (s : State) : Result :=
  implied 2 (fun s => setZN (incByte s.Y) (s.setY (incByte s.Y))) s

/-- DEX, opcode 0xCA, mode IMP (R220, R251). -/
def execDex (s : State) : Result :=
  implied 2 (fun s => setZN (decByte s.X) (s.setX (decByte s.X))) s

/-- DEY, opcode 0x88, mode IMP (R221, R251). -/
def execDey (s : State) : Result :=
  implied 2 (fun s => setZN (decByte s.Y) (s.setY (decByte s.Y))) s

end Sys2Proof.Machine
end

