-- ==== Sys2Proof/Machine/JumpStack.lean ====
section
/-! DEFINITION. JMP, JSR, RTS, PHA and PLA of profile EXT (49_extension_control.md sections 3 and 4; log 11).
One meaning per row of the table; its first number is the row's base cycles. -/

namespace Sys2Proof.Machine

/-- R264: push the address of the JSR's last byte, high byte first, and go to `a`. -/
def jsrEffect (a : Word) (s : State) : State :=
  let ret := s.PC - 1
  ((s.push (hi ret)).push (lo ret)).setPC a

/-- R265: pull the low byte, then the high byte, and go to the address after the one pulled. -/
def rtsEffect (s : State) : State :=
  let l := s.pulled
  let s₁ := s.pull
  let h := s₁.pulled
  s₁.pull.setPC (w16 h l + 1)

/-- R267: pull into the accumulator, with `Z` and `N` from it. -/
def plaEffect (s : State) : State := setZN s.pulled (s.pull.setA s.pulled)

/-- JMP, opcode 0x4C, mode ABS (R263, R87). -/
def execJmpAbs (w : Word) (s : State) : Result := jump 3 (.abs w) (fun a s => s.setPC a) s

/-- JMP, opcode 0x6C, mode IND (R263, R253). -/
def execJmpInd (w : Word) (s : State) : Result := jump 5 (.ind w) (fun a s => s.setPC a) s

/-- JSR, opcode 0x20, mode ABS (R264, R87). -/
def execJsr (w : Word) (s : State) : Result := jump 6 (.abs w) jsrEffect s

/-- RTS, opcode 0x60, mode IMP (R265, R251). -/
def execRts (s : State) : Result := implied 6 rtsEffect s

/-- PHA, opcode 0x48, mode IMP (R266, R251). -/
def execPha (s : State) : Result := implied 3 (fun s => s.push s.A) s

/-- PLA, opcode 0x68, mode IMP (R267, R251). -/
def execPla (s : State) : Result := implied 4 plaEffect s

end Sys2Proof.Machine
end

