-- ==== Sys2Proof/Machine/LoadStore.lean ====
section
/-! DEFINITION. The loads and stores of profile EXT (48_extension_data.md sections 2 and 3; log 11).
One meaning per row of the table; its first number is the row's base cycles. -/

namespace Sys2Proof.Machine

/-- R204: the effect of LDA. -/
def ldaEffect (m : Byte) (s : State) : State := setZN m (s.setA m)

/-- R205: the effect of LDX. -/
def ldxEffect (m : Byte) (s : State) : State := setZN m (s.setX m)

/-- R206: the effect of LDY. -/
def ldyEffect (m : Byte) (s : State) : State := setZN m (s.setY m)

/-- LDA, opcode 0xA1, mode IZX (R204, R90). -/
def execLdaIzx (b : Byte) (s : State) : Result := readOnly 6 (.izx b) ldaEffect s

/-- LDA, opcode 0xA5, mode ZPP (R204, R84). -/
def execLdaZpp (b : Byte) (s : State) : Result := readOnly 3 (.zpp b) ldaEffect s

/-- LDA, opcode 0xA9, mode IMM (R204, R83). -/
def execLdaImm (v : Byte) (s : State) : Result := readOnly 2 (.imm v) ldaEffect s

/-- LDA, opcode 0xAD, mode ABS (R204, R87). -/
def execLdaAbs (w : Word) (s : State) : Result := readOnly 4 (.abs w) ldaEffect s

/-- LDA, opcode 0xB1, mode IZY (R204, R91). -/
def execLdaIzy (b : Byte) (s : State) : Result := readOnly 5 (.izy b) ldaEffect s

/-- LDA, opcode 0xB5, mode ZPX (R204, R85). -/
def execLdaZpx (b : Byte) (s : State) : Result := readOnly 4 (.zpx b) ldaEffect s

/-- LDA, opcode 0xB9, mode ABY (R204, R89). -/
def execLdaAby (w : Word) (s : State) : Result := readOnly 4 (.aby w) ldaEffect s

/-- LDA, opcode 0xBD, mode ABX (R204, R88). -/
def execLdaAbx (w : Word) (s : State) : Result := readOnly 4 (.abx w) ldaEffect s

/-- LDX, opcode 0xA2, mode IMM (R205, R83). -/
def execLdxImm (v : Byte) (s : State) : Result := readOnly 2 (.imm v) ldxEffect s

/-- LDX, opcode 0xA6, mode ZPP (R205, R84). -/
def execLdxZpp (b : Byte) (s : State) : Result := readOnly 3 (.zpp b) ldxEffect s

/-- LDX, opcode 0xAE, mode ABS (R205, R87). -/
def execLdxAbs (w : Word) (s : State) : Result := readOnly 4 (.abs w) ldxEffect s

/-- LDX, opcode 0xB6, mode ZPY (R205, R86). -/
def execLdxZpy (b : Byte) (s : State) : Result := readOnly 4 (.zpy b) ldxEffect s

/-- LDX, opcode 0xBE, mode ABY (R205, R89). -/
def execLdxAby (w : Word) (s : State) : Result := readOnly 4 (.aby w) ldxEffect s

/-- LDY, opcode 0xA0, mode IMM (R206, R83). -/
def execLdyImm (v : Byte) (s : State) : Result := readOnly 2 (.imm v) ldyEffect s

/-- LDY, opcode 0xA4, mode ZPP (R206, R84). -/
def execLdyZpp (b : Byte) (s : State) : Result := readOnly 3 (.zpp b) ldyEffect s

/-- LDY, opcode 0xAC, mode ABS (R206, R87). -/
def execLdyAbs (w : Word) (s : State) : Result := readOnly 4 (.abs w) ldyEffect s

/-- LDY, opcode 0xB4, mode ZPX (R206, R85). -/
def execLdyZpx (b : Byte) (s : State) : Result := readOnly 4 (.zpx b) ldyEffect s

/-- LDY, opcode 0xBC, mode ABX (R206, R88). -/
def execLdyAbx (w : Word) (s : State) : Result := readOnly 4 (.abx w) ldyEffect s

/-- STA, opcode 0x81, mode IZX (R207, R90). -/
def execStaIzx (b : Byte) (s : State) : Result := store 6 (.izx b) State.A s

/-- STA, opcode 0x85, mode ZPP (R207, R84). -/
def execStaZpp (b : Byte) (s : State) : Result := store 3 (.zpp b) State.A s

/-- STA, opcode 0x8D, mode ABS (R207, R87). -/
def execStaAbs (w : Word) (s : State) : Result := store 4 (.abs w) State.A s

/-- STA, opcode 0x91, mode IZY (R207, R91). -/
def execStaIzy (b : Byte) (s : State) : Result := store 6 (.izy b) State.A s

/-- STA, opcode 0x95, mode ZPX (R207, R85). -/
def execStaZpx (b : Byte) (s : State) : Result := store 4 (.zpx b) State.A s

/-- STA, opcode 0x99, mode ABY (R207, R89). -/
def execStaAby (w : Word) (s : State) : Result := store 5 (.aby w) State.A s

/-- STA, opcode 0x9D, mode ABX (R207, R88). -/
def execStaAbx (w : Word) (s : State) : Result := store 5 (.abx w) State.A s

/-- STX, opcode 0x86, mode ZPP (R208, R84). -/
def execStxZpp (b : Byte) (s : State) : Result := store 3 (.zpp b) State.X s

/-- STX, opcode 0x8E, mode ABS (R208, R87). -/
def execStxAbs (w : Word) (s : State) : Result := store 4 (.abs w) State.X s

/-- STX, opcode 0x96, mode ZPY (R208, R86). -/
def execStxZpy (b : Byte) (s : State) : Result := store 4 (.zpy b) State.X s

/-- STY, opcode 0x84, mode ZPP (R209, R84). -/
def execStyZpp (b : Byte) (s : State) : Result := store 3 (.zpp b) State.Y s

/-- STY, opcode 0x8C, mode ABS (R209, R87). -/
def execStyAbs (w : Word) (s : State) : Result := store 4 (.abs w) State.Y s

/-- STY, opcode 0x94, mode ZPX (R209, R85). -/
def execStyZpx (b : Byte) (s : State) : Result := store 4 (.zpx b) State.Y s

end Sys2Proof.Machine
end

