-- ==== Sys2Proof/Machine/ShiftRotate.lean ====
section
/-! DEFINITION. ASL, LSR, ROL and ROR (44_shift_rotate.md).
One meaning per row of the table; its first number is the row's base cycles. -/

namespace Sys2Proof.Machine

/-- ASL, opcode 0x06, mode ZPP (R131, R84). -/
def execAslZpp (b : Byte) (s : State) : Result := shiftOp 5 (.zpp b) asl s

/-- ASL, opcode 0x0A, mode ACC (R131, R82). -/
def execAslAcc (s : State) : Result := shiftOp 2 .acc asl s

/-- ASL, opcode 0x0E, mode ABS (R131, R87). -/
def execAslAbs (w : Word) (s : State) : Result := shiftOp 6 (.abs w) asl s

/-- ASL, opcode 0x16, mode ZPX (R131, R85). -/
def execAslZpx (b : Byte) (s : State) : Result := shiftOp 6 (.zpx b) asl s

/-- ASL, opcode 0x1E, mode ABX (R131, R88). -/
def execAslAbx (w : Word) (s : State) : Result := shiftOp 7 (.abx w) asl s

/-- LSR, opcode 0x46, mode ZPP (R132, R84). -/
def execLsrZpp (b : Byte) (s : State) : Result := shiftOp 5 (.zpp b) lsr s

/-- LSR, opcode 0x4A, mode ACC (R132, R82). -/
def execLsrAcc (s : State) : Result := shiftOp 2 .acc lsr s

/-- LSR, opcode 0x4E, mode ABS (R132, R87). -/
def execLsrAbs (w : Word) (s : State) : Result := shiftOp 6 (.abs w) lsr s

/-- LSR, opcode 0x56, mode ZPX (R132, R85). -/
def execLsrZpx (b : Byte) (s : State) : Result := shiftOp 6 (.zpx b) lsr s

/-- LSR, opcode 0x5E, mode ABX (R132, R88). -/
def execLsrAbx (w : Word) (s : State) : Result := shiftOp 7 (.abx w) lsr s

/-- ROL, opcode 0x26, mode ZPP (R133, R84). -/
def execRolZpp (b : Byte) (s : State) : Result := shiftOp 5 (.zpp b) rol s

/-- ROL, opcode 0x2A, mode ACC (R133, R82). -/
def execRolAcc (s : State) : Result := shiftOp 2 .acc rol s

/-- ROL, opcode 0x2E, mode ABS (R133, R87). -/
def execRolAbs (w : Word) (s : State) : Result := shiftOp 6 (.abs w) rol s

/-- ROL, opcode 0x36, mode ZPX (R133, R85). -/
def execRolZpx (b : Byte) (s : State) : Result := shiftOp 6 (.zpx b) rol s

/-- ROL, opcode 0x3E, mode ABX (R133, R88). -/
def execRolAbx (w : Word) (s : State) : Result := shiftOp 7 (.abx w) rol s

/-- ROR, opcode 0x66, mode ZPP (R134, R84). -/
def execRorZpp (b : Byte) (s : State) : Result := shiftOp 5 (.zpp b) ror s

/-- ROR, opcode 0x6A, mode ACC (R134, R82). -/
def execRorAcc (s : State) : Result := shiftOp 2 .acc ror s

/-- ROR, opcode 0x6E, mode ABS (R134, R87). -/
def execRorAbs (w : Word) (s : State) : Result := shiftOp 6 (.abs w) ror s

/-- ROR, opcode 0x76, mode ZPX (R134, R85). -/
def execRorZpx (b : Byte) (s : State) : Result := shiftOp 6 (.zpx b) ror s

/-- ROR, opcode 0x7E, mode ABX (R134, R88). -/
def execRorAbx (w : Word) (s : State) : Result := shiftOp 7 (.abx w) ror s

end Sys2Proof.Machine
end

