-- ==== Sys2Proof/Machine/Transfer.lean ====
section
/-! DEFINITION. The register transfers of profile EXT (48_extension_data.md section 4; log 11).
One meaning per row of the table; its first number is the row's base cycles. -/

namespace Sys2Proof.Machine

/-- TAX, opcode 0xAA, mode IMP (R210, R251). -/
def execTax (s : State) : Result := implied 2 (fun s => setZN s.A (s.setX s.A)) s

/-- TAY, opcode 0xA8, mode IMP (R211, R251). -/
def execTay (s : State) : Result := implied 2 (fun s => setZN s.A (s.setY s.A)) s

/-- TXA, opcode 0x8A, mode IMP (R212, R251). -/
def execTxa (s : State) : Result := implied 2 (fun s => setZN s.X (s.setA s.X)) s

/-- TYA, opcode 0x98, mode IMP (R213, R251). -/
def execTya (s : State) : Result := implied 2 (fun s => setZN s.Y (s.setA s.Y)) s

/-- TSX, opcode 0xBA, mode IMP (R214, R251). -/
def execTsx (s : State) : Result := implied 2 (fun s => setZN s.SP (s.setX s.SP)) s

/-- TXS, opcode 0x9A, mode IMP (R215, R251). -/
def execTxs (s : State) : Result := implied 2 (fun s => s.setSP s.X) s

end Sys2Proof.Machine
end

