-- ==== Sys2Proof/Machine/Engine.lean ====
section
/-! DEFINITION. The engine's two kinds of tick (45_execution_engine.md), the instruction-level step, and placing an
instruction's bytes where the next tick fetches. -/

namespace Sys2Proof.Machine

/-- The instruction the bytes at `PC` decode to in the profile: opcode, low byte, high byte at ascending addresses
modulo 65536 (R16, R17, R45, R60). A read has no side effect (R41), so reading a byte that a shorter instruction does
not have is unobservable (log 8). -/
def decodedAt (p : Profile) (s : State) : Option Instr :=
  decodeAt p (s.read s.PC) (s.read (s.PC + 1)) (s.read (s.PC + 2))

/-- `IdleTick()` (R142): fetch, decode, execute; an opcode byte without entry raises the fault, and nothing has
changed (R161). -/
def idleTick (p : Profile) (s : State) : Result :=
  match decodedAt p s with
  | some i => exec i s
  | none => raiseUndefinedOpcode (s.read s.PC) s.PC

/-- `RunningTick()` (R143): count down; nothing else changes. -/
def runningTick (s : State) : State := s.setCR (s.CR - 1)

/-- `Tick()` (R141) in a profile. -/
def tick (p : Profile) (s : State) : Result :=
  if s.CR = 0 then idleTick p s else .next (runningTick s)

/-- The state a tick leaves: after a fault it is the state before the tick (R161, R162). -/
def afterTick (p : Profile) (s : State) : State :=
  match tick p s with
  | .next t => t
  | .fault _ | .refused _ => s

/-- `n` Running ticks. -/
def runningTicks : Nat → State → State
  | 0, s => s
  | n + 1, s => runningTicks n (runningTick s)

/-- `InstrStep()` (R151), for a state at an instruction boundary: an Idle tick and the Running ticks it owes, with the
number of ticks used. -/
def instrStep (p : Profile) (s : State) : Host.Outcome (State × Nat) Fault Refusal :=
  andThen (idleTick p s) fun t => .next (runningTicks t.CR t, 1 + t.CR)

/-- The bytes of a word `w` of `nbits` bits at `PC`, `PC + 1` and `PC + 2`, in memory order; bits from `nbits` on are
0. -/
def placeWord (nbits w : Nat) (s : State) : State :=
  ((s.write s.PC (tableByte nbits w 0)).write (s.PC + 1) (tableByte nbits w 1)).write
    (s.PC + 2) (tableByte nbits w 2)

end Sys2Proof.Machine
end

