-- ==== Sys2Proof/Machine/Step.lean ====
section
/-! DEFINITION. The step of the machine, one clock cycle, in the profile the model runs. -/

namespace Sys2Proof.Machine

/-- One `Tick()` of the machine in a given profile (R141). -/
def stepIn (p : Profile) (s : State) : Host.Outcome State Fault Refusal := tick p s

/-- One `Tick()` of the machine whose `PROFILE` is `Config.profile` (R141; log 1). -/
def step (s : State) : Host.Outcome State Fault Refusal := stepIn Config.profile s

/-- `s` with the instruction of word `w` where the next tick fetches: its bytes stored at `PC`, and the engine Idle, since
a Running tick fetches nothing (R142, R143; log 5). -/
def State.withFetchWord (s : State) (nbits w : Nat) : State := (placeWord nbits w s).setCR 0

end Sys2Proof.Machine
end

