-- ==== Sys2Proof/Machine/InstructionSet.lean ====
section
/-! DEFINITION. The InstructionSet: the decode table of 256 slots (R64), row by row as R66 and R203 list it, and the
host's lookup in it (R65). -/

namespace Sys2Proof.Machine

/-- An entry of the decode table: the lookup's triple (mnemonic, mode, base cycles) of R64, at its opcode byte. -/
structure Entry where
  opcode : Byte
  mnemonic : Mnemonic
  mode : Mode
  baseCycles : Nat
  deriving DecidableEq, Repr

/-- `isReadOnly` (R69, R201). -/
def Entry.isReadOnly (e : Entry) : Bool := e.mnemonic.opClass == .readOnly

/-- The rows of opcode bytes 0x00 to 0x1F (R66, R203). -/
def rows0x1x : List Entry :=
  [ ⟨0x01#8, .ora, .izx, 6⟩
  , ⟨0x05#8, .ora, .zpp, 3⟩
  , ⟨0x06#8, .asl, .zpp, 5⟩
  , ⟨0x09#8, .ora, .imm, 2⟩
  , ⟨0x0A#8, .asl, .acc, 2⟩
  , ⟨0x0D#8, .ora, .abs, 4⟩
  , ⟨0x0E#8, .asl, .abs, 6⟩
  , ⟨0x10#8, .bpl, .rel, 2⟩
  , ⟨0x11#8, .ora, .izy, 5⟩
  , ⟨0x15#8, .ora, .zpx, 4⟩
  , ⟨0x16#8, .asl, .zpx, 6⟩
  , ⟨0x18#8, .clc, .imp, 2⟩
  , ⟨0x19#8, .ora, .aby, 4⟩
  , ⟨0x1D#8, .ora, .abx, 4⟩
  , ⟨0x1E#8, .asl, .abx, 7⟩ ]

/-- The rows of opcode bytes 0x20 to 0x3F (R66, R203). -/
def rows2x3x : List Entry :=
  [ ⟨0x20#8, .jsr, .abs, 6⟩
  , ⟨0x21#8, .and, .izx, 6⟩
  , ⟨0x24#8, .bit, .zpp, 3⟩
  , ⟨0x25#8, .and, .zpp, 3⟩
  , ⟨0x26#8, .rol, .zpp, 5⟩
  , ⟨0x29#8, .and, .imm, 2⟩
  , ⟨0x2A#8, .rol, .acc, 2⟩
  , ⟨0x2C#8, .bit, .abs, 4⟩
  , ⟨0x2D#8, .and, .abs, 4⟩
  , ⟨0x2E#8, .rol, .abs, 6⟩
  , ⟨0x30#8, .bmi, .rel, 2⟩
  , ⟨0x31#8, .and, .izy, 5⟩
  , ⟨0x35#8, .and, .zpx, 4⟩
  , ⟨0x36#8, .rol, .zpx, 6⟩
  , ⟨0x38#8, .sec, .imp, 2⟩
  , ⟨0x39#8, .and, .aby, 4⟩
  , ⟨0x3D#8, .and, .abx, 4⟩
  , ⟨0x3E#8, .rol, .abx, 7⟩ ]

/-- The rows of opcode bytes 0x40 to 0x5F (R66, R203). -/
def rows4x5x : List Entry :=
  [ ⟨0x41#8, .eor, .izx, 6⟩
  , ⟨0x45#8, .eor, .zpp, 3⟩
  , ⟨0x46#8, .lsr, .zpp, 5⟩
  , ⟨0x48#8, .pha, .imp, 3⟩
  , ⟨0x49#8, .eor, .imm, 2⟩
  , ⟨0x4A#8, .lsr, .acc, 2⟩
  , ⟨0x4C#8, .jmp, .abs, 3⟩
  , ⟨0x4D#8, .eor, .abs, 4⟩
  , ⟨0x4E#8, .lsr, .abs, 6⟩
  , ⟨0x50#8, .bvc, .rel, 2⟩
  , ⟨0x51#8, .eor, .izy, 5⟩
  , ⟨0x55#8, .eor, .zpx, 4⟩
  , ⟨0x56#8, .lsr, .zpx, 6⟩
  , ⟨0x58#8, .cli, .imp, 2⟩
  , ⟨0x59#8, .eor, .aby, 4⟩
  , ⟨0x5D#8, .eor, .abx, 4⟩
  , ⟨0x5E#8, .lsr, .abx, 7⟩ ]

/-- The rows of opcode bytes 0x60 to 0x7F (R66, R203). -/
def rows6x7x : List Entry :=
  [ ⟨0x60#8, .rts, .imp, 6⟩
  , ⟨0x61#8, .adc, .izx, 6⟩
  , ⟨0x65#8, .adc, .zpp, 3⟩
  , ⟨0x66#8, .ror, .zpp, 5⟩
  , ⟨0x68#8, .pla, .imp, 4⟩
  , ⟨0x69#8, .adc, .imm, 2⟩
  , ⟨0x6A#8, .ror, .acc, 2⟩
  , ⟨0x6C#8, .jmp, .ind, 5⟩
  , ⟨0x6D#8, .adc, .abs, 4⟩
  , ⟨0x6E#8, .ror, .abs, 6⟩
  , ⟨0x70#8, .bvs, .rel, 2⟩
  , ⟨0x71#8, .adc, .izy, 5⟩
  , ⟨0x75#8, .adc, .zpx, 4⟩
  , ⟨0x76#8, .ror, .zpx, 6⟩
  , ⟨0x78#8, .sei, .imp, 2⟩
  , ⟨0x79#8, .adc, .aby, 4⟩
  , ⟨0x7D#8, .adc, .abx, 4⟩
  , ⟨0x7E#8, .ror, .abx, 7⟩ ]

/-- The rows of opcode bytes 0x80 to 0x9F (R66, R203). -/
def rows8x9x : List Entry :=
  [ ⟨0x81#8, .sta, .izx, 6⟩
  , ⟨0x84#8, .sty, .zpp, 3⟩
  , ⟨0x85#8, .sta, .zpp, 3⟩
  , ⟨0x86#8, .stx, .zpp, 3⟩
  , ⟨0x88#8, .dey, .imp, 2⟩
  , ⟨0x8A#8, .txa, .imp, 2⟩
  , ⟨0x8C#8, .sty, .abs, 4⟩
  , ⟨0x8D#8, .sta, .abs, 4⟩
  , ⟨0x8E#8, .stx, .abs, 4⟩
  , ⟨0x90#8, .bcc, .rel, 2⟩
  , ⟨0x91#8, .sta, .izy, 6⟩
  , ⟨0x94#8, .sty, .zpx, 4⟩
  , ⟨0x95#8, .sta, .zpx, 4⟩
  , ⟨0x96#8, .stx, .zpy, 4⟩
  , ⟨0x98#8, .tya, .imp, 2⟩
  , ⟨0x99#8, .sta, .aby, 5⟩
  , ⟨0x9A#8, .txs, .imp, 2⟩
  , ⟨0x9D#8, .sta, .abx, 5⟩ ]

/-- The rows of opcode bytes 0xA0 to 0xBF (R66, R203). -/
def rowsAxBx : List Entry :=
  [ ⟨0xA0#8, .ldy, .imm, 2⟩
  , ⟨0xA1#8, .lda, .izx, 6⟩
  , ⟨0xA2#8, .ldx, .imm, 2⟩
  , ⟨0xA4#8, .ldy, .zpp, 3⟩
  , ⟨0xA5#8, .lda, .zpp, 3⟩
  , ⟨0xA6#8, .ldx, .zpp, 3⟩
  , ⟨0xA8#8, .tay, .imp, 2⟩
  , ⟨0xA9#8, .lda, .imm, 2⟩
  , ⟨0xAA#8, .tax, .imp, 2⟩
  , ⟨0xAC#8, .ldy, .abs, 4⟩
  , ⟨0xAD#8, .lda, .abs, 4⟩
  , ⟨0xAE#8, .ldx, .abs, 4⟩
  , ⟨0xB0#8, .bcs, .rel, 2⟩
  , ⟨0xB1#8, .lda, .izy, 5⟩
  , ⟨0xB4#8, .ldy, .zpx, 4⟩
  , ⟨0xB5#8, .lda, .zpx, 4⟩
  , ⟨0xB6#8, .ldx, .zpy, 4⟩
  , ⟨0xB8#8, .clv, .imp, 2⟩
  , ⟨0xB9#8, .lda, .aby, 4⟩
  , ⟨0xBA#8, .tsx, .imp, 2⟩
  , ⟨0xBC#8, .ldy, .abx, 4⟩
  , ⟨0xBD#8, .lda, .abx, 4⟩
  , ⟨0xBE#8, .ldx, .aby, 4⟩ ]

/-- The rows of opcode bytes 0xC0 to 0xDF (R66, R203). -/
def rowsCxDx : List Entry :=
  [ ⟨0xC0#8, .cpy, .imm, 2⟩
  , ⟨0xC1#8, .cpa, .izx, 6⟩
  , ⟨0xC4#8, .cpy, .zpp, 3⟩
  , ⟨0xC5#8, .cpa, .zpp, 3⟩
  , ⟨0xC6#8, .dec, .zpp, 5⟩
  , ⟨0xC8#8, .iny, .imp, 2⟩
  , ⟨0xC9#8, .cpa, .imm, 2⟩
  , ⟨0xCA#8, .dex, .imp, 2⟩
  , ⟨0xCC#8, .cpy, .abs, 4⟩
  , ⟨0xCD#8, .cpa, .abs, 4⟩
  , ⟨0xCE#8, .dec, .abs, 6⟩
  , ⟨0xD0#8, .bne, .rel, 2⟩
  , ⟨0xD1#8, .cpa, .izy, 5⟩
  , ⟨0xD5#8, .cpa, .zpx, 4⟩
  , ⟨0xD6#8, .dec, .zpx, 6⟩
  , ⟨0xD8#8, .cld, .imp, 2⟩
  , ⟨0xD9#8, .cpa, .aby, 4⟩
  , ⟨0xDD#8, .cpa, .abx, 4⟩
  , ⟨0xDE#8, .dec, .abx, 7⟩ ]

/-- The rows of opcode bytes 0xE0 to 0xFF (R66, R203). -/
def rowsExFx : List Entry :=
  [ ⟨0xE0#8, .cpx, .imm, 2⟩
  , ⟨0xE1#8, .sbc, .izx, 6⟩
  , ⟨0xE4#8, .cpx, .zpp, 3⟩
  , ⟨0xE5#8, .sbc, .zpp, 3⟩
  , ⟨0xE6#8, .inc, .zpp, 5⟩
  , ⟨0xE8#8, .inx, .imp, 2⟩
  , ⟨0xE9#8, .sbc, .imm, 2⟩
  , ⟨0xEA#8, .nop, .imp, 2⟩
  , ⟨0xEC#8, .cpx, .abs, 4⟩
  , ⟨0xED#8, .sbc, .abs, 4⟩
  , ⟨0xEE#8, .inc, .abs, 6⟩
  , ⟨0xF0#8, .beq, .rel, 2⟩
  , ⟨0xF1#8, .sbc, .izy, 5⟩
  , ⟨0xF5#8, .sbc, .zpx, 4⟩
  , ⟨0xF6#8, .inc, .zpx, 6⟩
  , ⟨0xF8#8, .sed, .imp, 2⟩
  , ⟨0xF9#8, .sbc, .aby, 4⟩
  , ⟨0xFD#8, .sbc, .abx, 4⟩
  , ⟨0xFE#8, .inc, .abx, 7⟩ ]

/-- The decode table (R64, R66, R203): the filled slots. -/
def instructionSet : List Entry :=
  rows0x1x ++ rows2x3x ++ rows4x5x ++ rows6x7x ++ rows8x9x ++ rowsAxBx ++ rowsCxDx ++ rowsExFx

/-- `lookup(opcode)` (R65): the entry the profile has for the byte, or "no entry" (R70, R268). -/
def lookup (p : Profile) (op : Byte) : Option Entry :=
  instructionSet.find? fun e => e.opcode == op && p.admits e.mnemonic

end Sys2Proof.Machine
end

