-- ==== Sys2Proof/Machine/HostActions.lean ====
section
/-! DEFINITION. What the host may do between two ticks (R7, R187; log 6). The read accessors of R30 are the fields of `State`
and `State.read`; the lookup is `lookup` (R65). A Cpu's `INIT` parameters are fixed where it is constructed and are no
state (R9, R31), so they are an argument here, as the profile is. -/

namespace Sys2Proof.Machine

/-- One action of the host (R187). `CR` has no write accessor (R30). -/
inductive HostAction where
  | tick
  | reset
  | writeA (v : Byte)
  | writeX (v : Byte)
  | writeY (v : Byte)
  | writeSP (v : Byte)
  | writePC (v : Word)
  | writeC (v : Bool)
  | writeZ (v : Bool)
  | writeI (v : Bool)
  | writeD (v : Bool)
  | writeV (v : Bool)
  | writeN (v : Bool)
  | writeMemory (a : Word) (v : Byte)
  deriving DecidableEq, Repr

/-- The outcome of a host action on a Cpu constructed with `init`: a tick (R141), the reset, which has the effect of that
construction again (R180, R181), a write accessor, which replaces exactly the one element named (R30), or a write of a
memory byte (R7). -/
def hostAct (p : Profile) (init : Init) (act : HostAction) (s : State) : Result :=
  match act with
  | .tick => tick p s
  | .reset => .next (resetAgain init s)
  | .writeA v => .next (s.setA v)
  | .writeX v => .next (s.setX v)
  | .writeY v => .next (s.setY v)
  | .writeSP v => .next (s.setSP v)
  | .writePC v => .next (s.setPC v)
  | .writeC v => .next (s.setC v)
  | .writeZ v => .next (s.setZ v)
  | .writeI v => .next (s.setI v)
  | .writeD v => .next (s.setD v)
  | .writeV v => .next (s.setV v)
  | .writeN v => .next (s.setN v)
  | .writeMemory a v => .next (s.write a v)

/-- A run of host actions on a Cpu constructed with `init`. A fault ends it, whatever actions would follow: a faulted
run is faulted from then on (R162; log 7). -/
def hostRun (p : Profile) (init : Init) : List HostAction → State → Result
  | [], s => .next s
  | act :: acts, s => andThen (hostAct p init act s) (hostRun p init acts)

/-- A host's whole use of one Cpu (R187): `construct(memory, INIT_*)` on the memory `m`, then its actions; each reset
among them uses the `INIT` values of that construction (R181). -/
def hostSession (p : Profile) (init : Init) (m : Memory) (acts : List HostAction) : Result :=
  hostRun p init acts (construct init m)

end Sys2Proof.Machine
end

