-- ==== Sys2Proof/Machine/Pseudocode.lean ====
section
/-! DEFINITION. The spec's own pseudocode of the Idle tick, transcribed step by step over the decode table, and of the reset,
with a log of the memory accesses each makes in order (R51, R180). `idleTick` reads the instruction first and dispatches on it; this is the
form a reader holds beside 40_addressing_modes.md and R142, and the two are to be proved equal. -/

namespace Sys2Proof.Machine

/-- One access of the memory interface (R40, R51). -/
inductive Access where
  | read (a : Word)
  | write (a : Word) (v : Byte)
  deriving DecidableEq, Repr

/-- A state and the accesses made so far, the first one first. -/
structure Logged where
  state : State
  log : List Access
  deriving DecidableEq, Repr

/-- A change of state that touches no memory. -/
def Logged.onState (f : State → State) (t : Logged) : Logged := { t with state := f t.state }

/-- `MemRead(a, 1)` (R41). -/
def memRead (a : Word) (t : Logged) : Byte × Logged := (t.state.read a, { t with log := t.log ++ [.read a] })

/-- `MemWrite(a, 1, v)` (R42). -/
def memWrite (a : Word) (v : Byte) (t : Logged) : Logged := ⟨t.state.write a v, t.log ++ [.write a v]⟩

/-- `Fetch8()` (R80). -/
def fetch8 (t : Logged) : Byte × Logged :=
  let b := memRead t.state.PC t
  (b.1, b.2.onState fun s => s.setPC (s.PC + 1))

/-- Two operand bytes, low byte first, as a word (R87). -/
def fetch16 (t : Logged) : Word × Logged :=
  let l := fetch8 t
  let h := fetch8 l.2
  (w16 h.1 l.1, h.2)

/-- The word at zero-page pointer `p`, low byte first (R90, R91). -/
def readZeroPageWord (p : Byte) (t : Logged) : Word × Logged :=
  let l := memRead (zext16 p) t
  let h := memRead (zext16 (p + 1)) l.2
  (w16 h.1 l.1, h.2)

/-- The word at pointer `w`, low byte first, both bytes in one page (R253). -/
def readSamePageWord (w : Word) (t : Logged) : Word × Logged :=
  let l := memRead w t
  let h := memRead (w16 (hi w) (lo w + 1)) l.2
  (w16 h.1 l.1, h.2)

/-- `Resolve(mode)` (R82 to R91, R251 to R253), with `PC` at the first operand byte. -/
def resolveMode (m : Mode) (t : Logged) : Resolved × Logged :=
  match m with
  | .acc => (⟨.acc, false⟩, t)
  | .imp => (⟨.implied, false⟩, t)
  | .imm => let f := fetch8 t; (⟨.imm f.1, false⟩, f.2)
  | .zpp => let f := fetch8 t; (⟨.addr (zext16 f.1), false⟩, f.2)
  | .zpx => let f := fetch8 t; (⟨.addr (zext16 (f.1 + f.2.state.X)), false⟩, f.2)
  | .zpy => let f := fetch8 t; (⟨.addr (zext16 (f.1 + f.2.state.Y)), false⟩, f.2)
  | .abs => let f := fetch16 t; (⟨.addr f.1, false⟩, f.2)
  | .abx => let f := fetch16 t; (indexed f.1 f.2.state.X, f.2)
  | .aby => let f := fetch16 t; (indexed f.1 f.2.state.Y, f.2)
  | .izx =>
    let f := fetch8 t
    let p := readZeroPageWord (f.1 + f.2.state.X) f.2
    (⟨.addr p.1, false⟩, p.2)
  | .izy =>
    let f := fetch8 t
    let p := readZeroPageWord f.1 f.2
    (indexed p.1 p.2.state.Y, p.2)
  | .ind =>
    let f := fetch16 t
    let p := readSamePageWord f.1 f.2
    (⟨.addr p.1, false⟩, p.2)
  | .rel =>
    let f := fetch8 t
    let target := f.2.state.PC + sext16 f.1
    (⟨.addr target, hi target != hi f.2.state.PC⟩, f.2)

/-- `OperandRead(operand)` (R94). -/
def readThrough (o : Operand) (t : Logged) : Option (Byte × Logged) :=
  match o with
  | .acc => some (t.state.A, t)
  | .imm v => some (v, t)
  | .addr a => some (memRead a t)
  | .implied => none

/-- `OperandWrite(operand, v)` (R95). -/
def writeThrough (o : Operand) (v : Byte) (t : Logged) : Option Logged :=
  match o with
  | .acc => some (t.onState (State.setA v))
  | .addr a => some (memWrite a v t)
  | .imm _ | .implied => none

/-- `Push(v)` (R269). -/
def pushLogged (v : Byte) (t : Logged) : Logged :=
  (memWrite (stackAddress t.state.SP) v t).onState fun s => s.setSP (s.SP - 1)

/-- `Pull()` (R269). -/
def pullLogged (t : Logged) : Byte × Logged :=
  let u := t.onState fun s => s.setSP (s.SP + 1)
  memRead (stackAddress u.state.SP) u

/-- An effect that reads its operand and then changes registers and flags. -/
def readEffect (f : Byte → State → State) (o : Operand) (t : Logged) : Option (Nat × Logged) :=
  (readThrough o t).map fun r => (0, r.2.onState (f r.1))

/-- `ShiftOp(f, operand)` (R135). -/
def shiftEffect (f : Byte → Bool → Shifted) (o : Operand) (t : Logged) : Option (Nat × Logged) :=
  (readThrough o t).bind fun r =>
    let x := f r.1 r.2.state.C
    (writeThrough o x.result r.2).map fun u =>
      (0, u.onState fun s => setZN x.result (s.setC x.carryOut))

/-- INC and DEC (R216, R217). -/
def modifyEffect (f : Byte → Byte) (o : Operand) (t : Logged) : Option (Nat × Logged) :=
  (readThrough o t).bind fun r =>
    (writeThrough o (f r.1) r.2).map fun u => (0, u.onState (setZN (f r.1)))

/-- STA, STX and STY (R207 to R209). -/
def storeEffect (v : State → Byte) (o : Operand) (t : Logged) : Option (Nat × Logged) :=
  (writeThrough o (v t.state) t).map fun u => (0, u)

/-- An effect on registers and flags alone. -/
def registerEffect (f : State → State) (t : Logged) : Option (Nat × Logged) := some (0, t.onState f)

/-- `Branch(cond, operand, crossed)` (R254). -/
def branchEffect (cond : Bool) (r : Resolved) (t : Logged) : Option (Nat × Logged) :=
  match r.operand with
  | .addr target => some (if cond then (1 + b2n r.crossed, t.onState (State.setPC target)) else (0, t))
  | .acc | .imm _ | .implied => none

/-- JMP (R263). -/
def jmpEffect (o : Operand) (t : Logged) : Option (Nat × Logged) :=
  match o with
  | .addr a => some (0, t.onState (State.setPC a))
  | .acc | .imm _ | .implied => none

/-- JSR (R264). -/
def jsrLogged (o : Operand) (t : Logged) : Option (Nat × Logged) :=
  match o with
  | .addr a =>
    let ret := t.state.PC - 1
    some (0, (pushLogged (lo ret) (pushLogged (hi ret) t)).onState (State.setPC a))
  | .acc | .imm _ | .implied => none

/-- RTS (R265). -/
def rtsLogged (t : Logged) : Option (Nat × Logged) :=
  let l := pullLogged t
  let h := pullLogged l.2
  some (0, h.2.onState (State.setPC (w16 h.1 l.1 + 1)))

/-- PLA (R267). -/
def plaLogged (t : Logged) : Option (Nat × Logged) :=
  let v := pullLogged t
  some (0, v.2.onState fun s => setZN v.1 (s.setA v.1))

/-- `entry.effect(operand)` (R149, R201): the extra cycles and what the effect leaves. -/
def effectOf (m : Mnemonic) (r : Resolved) (t : Logged) : Option (Nat × Logged) :=
  match m with
  | .adc => readEffect adcEffect r.operand t
  | .sbc => readEffect sbcEffect r.operand t
  | .and => readEffect andEffect r.operand t
  | .ora => readEffect oraEffect r.operand t
  | .cpa => readEffect cpaEffect r.operand t
  | .cpx => readEffect cpxEffect r.operand t
  | .cpy => readEffect cpyEffect r.operand t
  | .asl => shiftEffect asl r.operand t
  | .lsr => shiftEffect lsr r.operand t
  | .rol => shiftEffect rol r.operand t
  | .ror => shiftEffect ror r.operand t
  | .lda => readEffect ldaEffect r.operand t
  | .ldx => readEffect ldxEffect r.operand t
  | .ldy => readEffect ldyEffect r.operand t
  | .sta => storeEffect State.A r.operand t
  | .stx => storeEffect State.X r.operand t
  | .sty => storeEffect State.Y r.operand t
  | .tax => registerEffect (fun s => setZN s.A (s.setX s.A)) t
  | .tay => registerEffect (fun s => setZN s.A (s.setY s.A)) t
  | .txa => registerEffect (fun s => setZN s.X (s.setA s.X)) t
  | .tya => registerEffect (fun s => setZN s.Y (s.setA s.Y)) t
  | .tsx => registerEffect (fun s => setZN s.SP (s.setX s.SP)) t
  | .txs => registerEffect (fun s => s.setSP s.X) t
  | .inc => modifyEffect incByte r.operand t
  | .dec => modifyEffect decByte r.operand t
  | .inx => registerEffect (fun s => setZN (incByte s.X) (s.setX (incByte s.X))) t
  | .iny => registerEffect (fun s => setZN (incByte s.Y) (s.setY (incByte s.Y))) t
  | .dex => registerEffect (fun s => setZN (decByte s.X) (s.setX (decByte s.X))) t
  | .dey => registerEffect (fun s => setZN (decByte s.Y) (s.setY (decByte s.Y))) t
  | .eor => readEffect eorEffect r.operand t
  | .bit => readEffect bitFlags r.operand t
  | .clc => registerEffect (State.setC false) t
  | .sec => registerEffect (State.setC true) t
  | .cli => registerEffect (State.setI false) t
  | .sei => registerEffect (State.setI true) t
  | .cld => registerEffect (State.setD false) t
  | .sed => registerEffect (State.setD true) t
  | .clv => registerEffect (State.setV false) t
  | .nop => registerEffect id t
  | .bpl => branchEffect (!t.state.N) r t
  | .bmi => branchEffect (t.state.N) r t
  | .bvc => branchEffect (!t.state.V) r t
  | .bvs => branchEffect (t.state.V) r t
  | .bcc => branchEffect (!t.state.C) r t
  | .bcs => branchEffect (t.state.C) r t
  | .bne => branchEffect (!t.state.Z) r t
  | .beq => branchEffect (t.state.Z) r t
  | .jmp => jmpEffect r.operand t
  | .jsr => jsrLogged r.operand t
  | .rts => rtsLogged t
  | .pha => some (0, pushLogged t.state.A t)
  | .pla => plaLogged t

/-- `IdleTick()` (R142) as the spec writes it, over the table entry of the opcode byte. -/
def idleTickLogged (p : Profile) (s : State) : Host.Outcome Logged Fault Refusal :=
  let op := memRead s.PC ⟨s, []⟩
  match lookup p op.1 with
  | none => .fault (.undefinedOpcode op.1 s.PC)
  | some e =>
    let r := resolveMode e.mode (op.2.onState fun s => s.setPC (s.PC + 1))
    match effectOf e.mnemonic r.1 r.2 with
    | none => .refused .noOperand
    | some x => .next (x.2.onState (State.setCR (cost e.baseCycles e.isReadOnly r.1.crossed x.1 - 1)))

/-- `Tick()` (R141) with its accesses; a Running tick makes none (R143). -/
def tickLogged (p : Profile) (s : State) : Host.Outcome Logged Fault Refusal :=
  if s.CR = 0 then idleTickLogged p s else .next ⟨s.setCR (s.CR - 1), []⟩

/-- `Reset()` (R180) as the spec writes it: two memory reads, low byte first, and no write. Construction (R181) makes the
same two. -/
def resetLogged (p : Init) (t : Logged) : Logged :=
  let l := memRead Config.resetVectorLow t
  let h := memRead Config.resetVectorHigh l.2
  h.2.onState fun s =>
    { s with
      PC := w16 h.1 l.1, A := p.A, X := p.X, Y := p.Y, SP := p.SP
      C := p.C, Z := p.Z, I := p.I, D := p.D, V := p.V, N := p.N, CR := p.CR }

end Sys2Proof.Machine
end

