-- ==== Sys2Proof/Safety.lean ====
section
/-! DEFINITION. What counts as a good state and a good run, in the terms the statements use. -/

namespace Sys2Proof.Machine

/-- The engine is at an instruction boundary (glossary of 00_scope.md; R140). -/
abbrev State.atBoundary (s : State) : Prop := s.CR = 0

/-- What every tick keeps: the memory in its canonical form, and a countdown of at most 6 (R25, D19). -/
abbrev State.Inv (s : State) : Prop := s.mem.wf ∧ s.CR ≤ 6

/-- How a run toward an address `END` ends (R186). -/
inductive RunEnd where
  /-- At an instruction boundary with `PC == END`, after the number of ticks. -/
  | reached (s : State) (ticks : Nat)
  /-- The tick budget is used up. -/
  | outOfTicks (s : State)
  /-- At a fault, which is never a successful end. -/
  | faulted (r : Fault)
  | refused (r : Refusal)
  deriving DecidableEq, Repr

/-- A run of at most `budget` ticks toward `finish` (R186), from a state that `used` ticks have led to. -/
def runToward (p : Profile) (finish : Word) : Nat → Nat → State → RunEnd
  | 0, used, s => if s.CR = 0 ∧ s.PC = finish then .reached s used else .outOfTicks s
  | budget + 1, used, s =>
    if s.CR = 0 ∧ s.PC = finish then .reached s used
    else
      match stepIn p s with
      | .next t => runToward p finish budget (used + 1) t
      | .fault r => .faulted r
      | .refused r => .refused r

end Sys2Proof.Machine
end

