-- ==== Sys2Proof/Certificates/Slice0/Obligations.lean ====
section
/-! DEFINITION. The statements for the provers, and the few functions they are written with. A statement about exec says
that it ANSWERS a next state, and which one: everything it does not name is as in `past i s`, the state whose `PC` is
past the instruction's bytes. Statements about profile EXT rest on rules that the spec marks as general knowledge. -/

open Sys2Proof Sys2Proof.Machine

namespace Sys2Proof.Claim

/-- The state in which the instruction fetched at `s.PC` resolves its operand: `PC` past its bytes (R16, R81). -/
def past (i : Instr) (s : State) : State := s.advancePC i.size

/-- The instruction's resolved operand (R81). -/
def operandOf (i : Instr) (s : State) : Resolved := resolve i.arg (past i s)

/-- The value of the instruction's operand, before its effect (R94). -/
def operandValue (i : Instr) (s : State) : Option Byte :=
  match (operandOf i s).operand with
  | .acc => some s.A
  | .imm v => some v
  | .addr a => some (s.read a)
  | .implied => none

/-- `s` with `v` in the place an operand names, if it names one (R95). -/
def written (o : Operand) (v : Byte) (s : State) : Option State :=
  match o with
  | .acc => some { s with A := v }
  | .addr a => some (s.write a v)
  | .imm _ | .implied => none

/-- The instruction's total cost, from its decode-table entry (R144, R201). -/
def costOf (i : Instr) (s : State) (extra : Nat) : Nat :=
  match lookup .ext i.opcode with
  | none => 0
  | some e => e.baseCycles + (if (operandOf i s).crossed && e.isReadOnly then 1 else 0) + extra

/-- The opcode bytes, modes and base costs of a mnemonic, as the decoder and the decode table have them, are those
listed. -/
def rowsAre (m : Mnemonic) (rows : List (Byte × Mode × Nat)) : Prop :=
  ∀ op b1 b2 md base, (op, md, base) ∈ rows ↔
    ∃ i, decodeAt .ext op b1 b2 = some i ∧ i.mnemonic = m ∧ i.mode = md ∧
      (lookup .ext op).map Entry.baseCycles = some base

/-- The register a compare compares (R121 to R123); `none` for any other mnemonic. -/
def comparedRegister (m : Mnemonic) (s : State) : Option Byte :=
  match m with
  | .cpa => some s.A
  | .cpx => some s.X
  | .cpy => some s.Y
  | _ => none

/-- The result of a CORE instruction run from `s` to `t`: the new `A` of an ADC, SBC, AND or ORA, the 8-bit difference
of a compare, and what a shift or rotate leaves in its operand (R101, R102, R111, R112, R120, R135). -/
def resultByte (i : Instr) (s t : State) : Option Byte :=
  match i.mnemonic with
  | .adc | .sbc | .and | .ora => some t.A
  | .asl | .lsr | .rol | .ror =>
    match (operandOf i s).operand with
    | .acc => some t.A
    | .addr a => some (t.read a)
    | .imm _ | .implied => none
  | m =>
    match comparedRegister m s, operandValue i s with
    | some rg, some v => some (rg - v)
    | _, _ => none

/-- The condition of a branch (R255 to R262); `none` for any other mnemonic. -/
def branchCondition (m : Mnemonic) (s : State) : Option Bool :=
  match m with
  | .bpl => some !s.N
  | .bmi => some s.N
  | .bvc => some !s.V
  | .bvs => some s.V
  | .bcc => some !s.C
  | .bcs => some s.C
  | .bne => some !s.Z
  | .beq => some s.Z
  | _ => none

/-- The extra cycles an effect returns: those of a taken branch (R201, R254). -/
def extraCycles (i : Instr) (s : State) : Nat :=
  if branchCondition i.mnemonic s = some true then 1 + b2n (operandOf i s).crossed else 0

/-- The six flags. -/
inductive FlagName where
  | C | Z | I | D | V | N
  deriving DecidableEq, Repr

/-- The flags an instruction's rule lists as written (R19, R22; R204 to R231, R250, R266, R267). -/
def flagsWritten : Mnemonic → List FlagName
  | .adc | .sbc => [.C, .Z, .N, .V]
  | .cpa | .cpx | .cpy | .asl | .lsr | .rol | .ror => [.C, .Z, .N]
  | .and | .ora | .eor | .lda | .ldx | .ldy | .tax | .tay | .txa | .tya | .tsx | .inc | .dec
  | .inx | .iny | .dex | .dey | .pla => [.Z, .N]
  | .bit => [.Z, .N, .V]
  | .clc | .sec => [.C]
  | .cli | .sei => [.I]
  | .cld | .sed => [.D]
  | .clv => [.V]
  | .sta | .stx | .sty | .txs | .nop | .bpl | .bmi | .bvc | .bvs | .bcc | .bcs | .bne | .beq
  | .jmp | .jsr | .rts | .pha => []

/-- The registers other than `PC`. -/
inductive RegisterName where
  | A | X | Y | SP
  deriving DecidableEq, Repr

/-- The registers an instruction's rule lists as written; a shift writes `A` in mode ACC only (R130). -/
def registersWritten (i : Instr) : List RegisterName :=
  match i.mnemonic with
  | .adc | .sbc | .and | .ora | .eor | .lda | .txa | .tya => [.A]
  | .asl | .lsr | .rol | .ror => if i.mode = .acc then [.A] else []
  | .ldx | .tax | .tsx | .inx | .dex => [.X]
  | .ldy | .tay | .iny | .dey => [.Y]
  | .txs | .jsr | .rts | .pha => [.SP]
  | .pla => [.A, .SP]
  | .cpa | .cpx | .cpy | .sta | .stx | .sty | .inc | .dec | .bit | .clc | .sec | .cli | .sei
  | .cld | .sed | .clv | .nop | .bpl | .bmi | .bvc | .bvs | .bcc | .bcs | .bne | .beq | .jmp => []

/-- The address an instruction stores to through its operand: the resolved address of a store or a read-modify-write
instruction (R95, R135, R207 to R209, R216, R217). -/
def storeAddress (i : Instr) (s : State) : Option Word :=
  match i.mnemonic.opClass, (operandOf i s).operand with
  | .store, .addr a | .readModifyWrite, .addr a => some a
  | _, _ => none

/-- The addresses an instruction pushes to (R264, R266, R269). -/
def pushAddresses (i : Instr) (s : State) : List Word :=
  match i.mnemonic with
  | .pha => [stackAddress s.SP]
  | .jsr => [stackAddress s.SP, stackAddress (s.SP - 1)]
  | _ => []

/-- The pointer reads of a mode's resolution, low byte first (R51, R90, R91, R253). -/
def pointerReads (arg : ModeArg) (s : State) : List Access :=
  match arg with
  | .izx b => [.read (zext16 (b + s.X)), .read (zext16 (b + s.X + 1))]
  | .izy b => [.read (zext16 b), .read (zext16 (b + 1))]
  | .ind w => [.read w, .read (w16 (hi w) (lo w + 1))]
  | _ => []

/-- The accesses of an instruction's effect (R51, R207 to R209, R264 to R269); a byte written is the one memory holds
afterwards, in `t`. -/
def effectAccesses (i : Instr) (s t : State) : List Access :=
  match i.mnemonic.opClass, (operandOf i s).operand with
  | .readOnly, .addr a => [.read a]
  | .readModifyWrite, .addr a => [.read a, .write a (t.read a)]
  | .store, .addr a => [.write a (t.read a)]
  | _, _ =>
    match i.mnemonic with
    | .pha => [.write (stackAddress s.SP) (t.read (stackAddress s.SP))]
    | .jsr => [.write (stackAddress s.SP) (t.read (stackAddress s.SP)),
        .write (stackAddress (s.SP - 1)) (t.read (stackAddress (s.SP - 1)))]
    | .pla => [.read (stackAddress (s.SP + 1))]
    | .rts => [.read (stackAddress (s.SP + 1)), .read (stackAddress (s.SP + 2))]
    | _ => []

/-- The accesses of the Idle tick that runs `i` from `s` to `t`: opcode, operand bytes, pointer bytes, effect (R51). -/
def tickAccesses (i : Instr) (s t : State) : List Access :=
  (List.range i.size).map (fun k => Access.read (s.PC + BitVec.ofNat 16 k)) ++
    pointerReads i.arg s ++ effectAccesses i s t

/-- The outcome without its access log. -/
def forgetLog (o : Host.Outcome Logged Fault Refusal) : Result :=
  match o with
  | .next t => .next t.state
  | .fault r => .fault r
  | .refused r => .refused r

/-- The same outcome with flag `D` given another value. -/
def withD (d : Bool) (o : Result) : Result := andThen o fun t => .next (t.setD d)

/-- `f` applied `n` times. -/
def iterate {α : Type} (f : α → α) : Nat → α → α
  | 0, a => a
  | n + 1, a => iterate f n (f a)

end Sys2Proof.Claim

open Sys2Proof.Claim

/-- The 190 bytes of R70, as that rule lists them. -/
def Sys2Proof.Claim.coreUndefined : List Byte :=
    [0x00, 0x02, 0x03, 0x04, 0x07, 0x08, 0x0B, 0x0C, 0x0F, 0x10, 0x12, 0x13, 0x14, 0x17,
      0x18, 0x1A, 0x1B, 0x1C, 0x1F, 0x20, 0x22, 0x23, 0x24, 0x27, 0x28, 0x2B, 0x2C, 0x2F,
      0x30, 0x32, 0x33, 0x34, 0x37, 0x38, 0x3A, 0x3B, 0x3C, 0x3F, 0x40, 0x41, 0x42, 0x43,
      0x44, 0x45, 0x47, 0x48, 0x49, 0x4B, 0x4C, 0x4D, 0x4F, 0x50, 0x51, 0x52, 0x53, 0x54,
      0x55, 0x57, 0x58, 0x59, 0x5A, 0x5B, 0x5C, 0x5D, 0x5F, 0x60, 0x62, 0x63, 0x64, 0x67,
      0x68, 0x6B, 0x6C, 0x6F, 0x70, 0x72, 0x73, 0x74, 0x77, 0x78, 0x7A, 0x7B, 0x7C, 0x7F,
      0x80, 0x81, 0x82, 0x83, 0x84, 0x85, 0x86, 0x87, 0x88, 0x89, 0x8A, 0x8B, 0x8C, 0x8D,
      0x8E, 0x8F, 0x90, 0x91, 0x92, 0x93, 0x94, 0x95, 0x96, 0x97, 0x98, 0x99, 0x9A, 0x9B,
      0x9C, 0x9D, 0x9E, 0x9F, 0xA0, 0xA1, 0xA2, 0xA3, 0xA4, 0xA5, 0xA6, 0xA7, 0xA8, 0xA9,
      0xAA, 0xAB, 0xAC, 0xAD, 0xAE, 0xAF, 0xB0, 0xB1, 0xB2, 0xB3, 0xB4, 0xB5, 0xB6, 0xB7,
      0xB8, 0xB9, 0xBA, 0xBB, 0xBC, 0xBD, 0xBE, 0xBF, 0xC2, 0xC3, 0xC6, 0xC7, 0xC8, 0xCA,
      0xCB, 0xCE, 0xCF, 0xD0, 0xD2, 0xD3, 0xD4, 0xD6, 0xD7, 0xD8, 0xDA, 0xDB, 0xDC, 0xDE,
      0xDF, 0xE2, 0xE3, 0xE6, 0xE7, 0xE8, 0xEA, 0xEB, 0xEE, 0xEF, 0xF0, 0xF2, 0xF3, 0xF4,
      0xF6, 0xF7, 0xF8, 0xFA, 0xFB, 0xFC, 0xFE, 0xFF]

/-- For every profile, every instruction the profile admits, at every operand value, and any bytes after it, decode
of its encoding followed by those bytes is that instruction and those bytes. Cites 30_encoding.md sections 1 to
3, 48_extension_data.md section 1. -/
def Obligations.DecodeInvertsEncode : Prop :=
    ∀ (p : Profile) (i : Instr) (rest : List Byte),
    i.wellFormed p = true → decode p (encode i ++ rest) = .instr i rest

/-- If decode answers an instruction and remaining bytes, the bytes were its encoding followed by those, and the
instruction is well-formed: each defined word has one meaning. Cites 30_encoding.md sections 1 to 3,
48_extension_data.md section 1. -/
def Obligations.EncodeInvertsDecode : Prop :=
    ∀ (p : Profile) (bytes rest : List Byte) (i : Instr),
    decode p bytes = .instr i rest → bytes = encode i ++ rest ∧ i.wellFormed p = true

/-- One word of each family, its bytes as the spec prints them (30 R72, 95 section 2), decodes to the instruction
the spec names. Cites 30_encoding.md section 3, 48_extension_data.md section 1, 49_extension_control.md sections
2 and 3. -/
def Obligations.DecodedWordsFromTheSpec : Prop :=
    decode .core [0x69, 0x01] = .instr (.adcImm 0x01) [] ∧
    decode .core [0x71, 0x10] = .instr (.adcIzy 0x10) [] ∧
    decode .core [0xE1, 0x10] = .instr (.sbcIzx 0x10) [] ∧
    decode .core [0x29, 0x0F] = .instr (.andImm 0x0F) [] ∧
    decode .core [0xD9, 0xFF, 0x12] = .instr (.cpaAby 0x12FF) [] ∧
    decode .core [0x2A] = .instr .rolAcc [] ∧
    decode .core [0x7E, 0xF0, 0x12] = .instr (.rorAbx 0x12F0) [] ∧
    decode .ext [0xB6, 0xF0] = .instr (.ldxZpy 0xF0) [] ∧
    decode .ext [0x91, 0x10] = .instr (.staIzy 0x10) [] ∧
    decode .ext [0xAA] = .instr .tax [] ∧
    decode .ext [0xDE, 0xFF, 0x12] = .instr (.decAbx 0x12FF) [] ∧
    decode .ext [0x2C, 0x34, 0x12] = .instr (.bitAbs 0x1234) [] ∧
    decode .ext [0xF8] = .instr .sed [] ∧
    decode .ext [0x70, 0xFC] = .instr (.bvs 0xFC) [] ∧
    decode .ext [0x6C, 0xFF, 0x12] = .instr (.jmpInd 0x12FF) [] ∧
    decode .core [0xEA] = .undefinedOpcode 0xEA

/-- For every opcode byte: in CORE the table has no entry for it exactly if it is one of the 190 bytes R70 lists,
and exactly then it decodes to nothing, whatever bytes follow. In EXT exactly 109 bytes have no entry: BRK 0x00,
PHP 0x08, PLP 0x28, RTI 0x40 and 105 others; such a byte decodes to nothing and its Idle tick raises
UndefinedOpcode. Cites R70, R268. -/
def Obligations.UndefinedOpcodes : Prop :=
    (∀ op b1 b2 : Byte,
      (lookup .core op = none ↔ op ∈ coreUndefined) ∧
      (decodeAt .core op b1 b2 = none ↔ op ∈ coreUndefined)) ∧
    coreUndefined.length = 190 ∧
    ((List.range 256).filter fun n => (lookup .ext (BitVec.ofNat 8 n)).isNone).length = 109 ∧
    (∀ op ∈ [0x00#8, 0x08#8, 0x28#8, 0x40#8], lookup .ext op = none) ∧
    (∀ op b1 b2 : Byte, decodeAt .ext op b1 b2 = none ↔ lookup .ext op = none) ∧
    ∀ (p : Profile) (s : State), s.CR = 0 → lookup p (s.read s.PC) = none →
      stepIn p s = .fault (.undefinedOpcode (s.read s.PC) s.PC)

/-- In each profile, if an opcode byte decodes to an instruction, the table has an entry at that byte with that
instruction's mnemonic and mode and with that opcode; if it does not decode, the table has no entry. Cites
30_encoding.md section 3, 60_exceptions.md section 1. -/
def Obligations.LookupAgreesWithDecoder : Prop :=
    ∀ (p : Profile) (op b1 b2 : Byte),
    match decodeAt p op b1 b2 with
    | none => lookup p op = none
    | some i => i.opcode = op ∧ ∃ e, lookup p op = some e ∧ e.opcode = op ∧
        e.mnemonic = i.mnemonic ∧ e.mode = i.mode

/-- The CORE table has 66 entries and the EXT table 147, so 109 bytes stay undefined; every byte CORE defines has
the same entry in EXT and decodes alike; and a CORE tick that answers a next state answers the same in EXT.
Cites R200. (EXT, general knowledge.) -/
def Obligations.ExtExtendsCore : Prop :=
    ((List.range 256).filter fun n => (lookup .core (BitVec.ofNat 8 n)).isSome).length = 66 ∧
    ((List.range 256).filter fun n => (lookup .ext (BitVec.ofNat 8 n)).isSome).length = 147 ∧
    (∀ op e, lookup .core op = some e → lookup .ext op = some e) ∧
    (∀ op b1 b2 i, decodeAt .core op b1 b2 = some i → decodeAt .ext op b1 b2 = some i) ∧
    ∀ s t : State, stepIn .core s = .next t → stepIn .ext s = .next t

/-- ACC answers the accumulator and touches nothing. With b the byte at PC: IMM answers b itself, ZPP the address b,
ZPX (b + X) mod 256, ZPY (b + Y) mod 256, never crossed, after the one read of b, with PC one further. The
resolver of the instruction meanings answers the same. Cites R82, R83, R84, R85, R86. -/
def Obligations.DirectModes : Prop :=
    ∀ (t : Logged) (s : State) (b : Byte),
    let z := t.state.read t.state.PC
    let u : Logged := ⟨{ t.state with PC := t.state.PC + 1 }, t.log ++ [.read t.state.PC]⟩
    resolveMode .acc t = (⟨.acc, false⟩, t) ∧
    resolveMode .imm t = (⟨.imm z, false⟩, u) ∧
    resolveMode .zpp t = (⟨.addr (BitVec.ofNat 16 z.toNat), false⟩, u) ∧
    resolveMode .zpx t =
      (⟨.addr (BitVec.ofNat 16 ((z.toNat + t.state.X.toNat) % 256)), false⟩, u) ∧
    resolveMode .zpy t =
      (⟨.addr (BitVec.ofNat 16 ((z.toNat + t.state.Y.toNat) % 256)), false⟩, u) ∧
    resolve .acc s = ⟨.acc, false⟩ ∧
    resolve (.imm b) s = ⟨.imm b, false⟩ ∧
    resolve (.zpp b) s = ⟨.addr (BitVec.ofNat 16 b.toNat), false⟩ ∧
    resolve (.zpx b) s = ⟨.addr (BitVec.ofNat 16 ((b.toNat + s.X.toNat) % 256)), false⟩ ∧
    resolve (.zpy b) s = ⟨.addr (BitVec.ofNat 16 ((b.toNat + s.Y.toNat) % 256)), false⟩ ∧
    Mode.acc.operandBytes = 0 ∧ Mode.imm.operandBytes = 1 ∧ Mode.zpp.operandBytes = 1 ∧
    Mode.zpx.operandBytes = 1 ∧ Mode.zpy.operandBytes = 1

/-- With l and h the bytes at PC and PC + 1 and base = l + 256 h: the operand is the address base, (base + X) mod
65536 or (base + Y) mod 65536; crossed exactly if an index changes the high byte, which is exactly if the low
byte plus the index exceeds 255; two reads, low byte first; PC two further. The resolver of the meanings answers
the same. Cites R87, R88, R89. -/
def Obligations.AbsoluteModes : Prop :=
    (∀ t : Logged,
      let l := t.state.read t.state.PC
      let h := t.state.read (t.state.PC + 1)
      let base := l.toNat + 256 * h.toNat
      let u : Logged := ⟨{ t.state with PC := t.state.PC + 2 },
        t.log ++ [.read t.state.PC, .read (t.state.PC + 1)]⟩
      resolveMode .abs t = (⟨.addr (BitVec.ofNat 16 base), false⟩, u) ∧
      resolveMode .abx t = (resolve (.abx (BitVec.ofNat 16 base)) t.state, u) ∧
      resolveMode .aby t = (resolve (.aby (BitVec.ofNat 16 base)) t.state, u)) ∧
    (∀ (w : Word) (s : State),
      let x := BitVec.ofNat 16 (w.toNat + s.X.toNat)
      let y := BitVec.ofNat 16 (w.toNat + s.Y.toNat)
      resolve (.abs w) s = ⟨.addr w, false⟩ ∧
      resolve (.abx w) s = ⟨.addr x, decide (x.toNat / 256 ≠ w.toNat / 256)⟩ ∧
      resolve (.aby w) s = ⟨.addr y, decide (y.toNat / 256 ≠ w.toNat / 256)⟩ ∧
      (resolve (.abx w) s).crossed = decide (255 < w.toNat % 256 + s.X.toNat) ∧
      (resolve (.aby w) s).crossed = decide (255 < w.toNat % 256 + s.Y.toNat)) ∧
    Mode.abs.operandBytes = 2 ∧ Mode.abx.operandBytes = 2 ∧ Mode.aby.operandBytes = 2

/-- With b the byte at PC: IZX takes its pointer at (b + X) mod 256, IZY at b; the pointer's second byte is one
further modulo 256; IZX's operand is that word, never crossed, IZY's is the word plus Y modulo 65536, crossed
iff the high byte changes; three reads in that order; PC one further. The resolver of the meanings answers the
same. Cites R90, R91. -/
def Obligations.IndirectModes : Prop :=
    (∀ t : Logged,
      let b := t.state.read t.state.PC
      let p := BitVec.ofNat 16 ((b.toNat + t.state.X.toNat) % 256)
      let p' := BitVec.ofNat 16 ((b.toNat + t.state.X.toNat + 1) % 256)
      let q := BitVec.ofNat 16 b.toNat
      let q' := BitVec.ofNat 16 ((b.toNat + 1) % 256)
      resolveMode .izx t = (resolve (.izx b) t.state,
        ⟨{ t.state with PC := t.state.PC + 1 },
          t.log ++ [.read t.state.PC, .read p, .read p']⟩) ∧
      resolveMode .izy t = (resolve (.izy b) t.state,
        ⟨{ t.state with PC := t.state.PC + 1 },
          t.log ++ [.read t.state.PC, .read q, .read q']⟩)) ∧
    (∀ (b : Byte) (s : State),
      let x := s.read (BitVec.ofNat 16 ((b.toNat + s.X.toNat) % 256))
      let x' := s.read (BitVec.ofNat 16 ((b.toNat + s.X.toNat + 1) % 256))
      let y := s.read (BitVec.ofNat 16 b.toNat)
      let y' := s.read (BitVec.ofNat 16 ((b.toNat + 1) % 256))
      let base := y.toNat + 256 * y'.toNat
      let a := BitVec.ofNat 16 (base + s.Y.toNat)
      resolve (.izx b) s = ⟨.addr (BitVec.ofNat 16 (x.toNat + 256 * x'.toNat)), false⟩ ∧
      resolve (.izy b) s = ⟨.addr a, decide (a.toNat / 256 ≠ base / 256)⟩) ∧
    Mode.izx.operandBytes = 1 ∧ Mode.izy.operandBytes = 1

/-- IMP answers Implied and touches nothing. REL adds the signed byte at PC to the address after it, modulo 65536,
crossed iff the page of the target differs from that of that address. IND reads the target at the word at PC,
its second byte in the same page as its first. The resolver of the meanings answers the same. Cites R251, R252,
R253. (EXT, general knowledge.) -/
def Obligations.ExtensionModes : Prop :=
    (∀ t : Logged,
      let d := t.state.read t.state.PC
      let u : Logged := ⟨{ t.state with PC := t.state.PC + 1 }, t.log ++ [.read t.state.PC]⟩
      let w := w16 (t.state.read (t.state.PC + 1)) (t.state.read t.state.PC)
      let w' := BitVec.ofNat 16 (256 * (w.toNat / 256) + (w.toNat + 1) % 256)
      resolveMode .imp t = (⟨.implied, false⟩, t) ∧
      resolveMode .rel t = (resolve (.rel d) u.state, u) ∧
      resolveMode .ind t = (resolve (.ind w) t.state,
        ⟨{ t.state with PC := t.state.PC + 2 },
          t.log ++ [.read t.state.PC, .read (t.state.PC + 1), .read w, .read w']⟩)) ∧
    (∀ (d : Byte) (w : Word) (s : State),
      let target := BitVec.ofInt 16 ((s.PC.toNat : Int) + signed8 d)
      let w' := BitVec.ofNat 16 (256 * (w.toNat / 256) + (w.toNat + 1) % 256)
      resolve .imp s = ⟨.implied, false⟩ ∧
      resolve (.rel d) s = ⟨.addr target, decide (target.toNat / 256 ≠ s.PC.toNat / 256)⟩ ∧
      resolve (.ind w) s =
        ⟨.addr (BitVec.ofNat 16 ((s.read w).toNat + 256 * (s.read w').toNat)), false⟩) ∧
    Mode.imp.operandBytes = 0 ∧ Mode.rel.operandBytes = 1 ∧ Mode.ind.operandBytes = 2

/-- The operand address of ZPP, ZPX and ZPY is below 256, and every access the resolution of IZX and IZY adds after
its operand byte is a read below 256. A resolution that reports a page crossing is of mode ABX, ABY or IZY, with
the low byte of the base plus the index above 255, or of mode REL of profile EXT. Cites 40_addressing_modes.md
sections 4 and 6, 49_extension_control.md section 1. -/
def Obligations.ResolutionStaysInPage : Prop :=
    (∀ (b : Byte) (s : State), ∀ arg ∈ [ModeArg.zpp b, .zpx b, .zpy b],
      ∃ a, (resolve arg s).operand = .addr a ∧ a.toNat < 256) ∧
    (∀ (t : Logged), ∀ m ∈ [Mode.izx, Mode.izy], ∃ p q : Word,
      (resolveMode m t).2.log = t.log ++ [.read t.state.PC, .read p, .read q] ∧
        p.toNat < 256 ∧ q.toNat < 256) ∧
    ∀ (arg : ModeArg) (s : State), (resolve arg s).crossed = true →
      (∃ w, arg = .abx w ∧ 255 < w.toNat % 256 + s.X.toNat) ∨
      (∃ w, arg = .aby w ∧ 255 < w.toNat % 256 + s.Y.toNat) ∨
      (∃ b, arg = .izy b ∧ 255 < (zeroPageWord b s).toNat % 256 + s.Y.toNat) ∨
      ∃ d, arg = .rel d

/-- ADC has exactly its eight opcodes and modes. In every one it completes: A becomes (A + M + C) mod 256, C whether
the sum exceeds 255, V the signed overflow computed from the old A, Z and N from the new A; PC moves past the
instruction, CR is the cost minus one, everything else is as before. Cites R101. -/
def Obligations.AdcAddsWithCarry : Prop :=
    rowsAre .adc [(0x61, .izx, 6), (0x65, .zpp, 3), (0x69, .imm, 2), (0x6D, .abs, 4), (0x71, .izy, 5), (0x75, .zpx, 4), (0x79, .aby, 4), (0x7D, .abx, 4)] ∧
    ∀ (i : Instr) (s : State), i.mnemonic = .adc → ∃ m, operandValue i s = some m ∧
      let sum := s.A.toNat + m.toNat + b2n s.C
      let r := BitVec.ofNat 8 (sum % 256)
      exec i s = .next { past i s with
        A := r, C := decide (255 < sum), Z := r == 0, N := bit r 7
        V := ((s.A ^^^ r) &&& (m ^^^ r) &&& 0x80) != 0
        CR := costOf i s 0 - 1 }

/-- SBC has exactly its eight opcodes and modes. In every one it completes: with Mc = 255 - M, A becomes (A + Mc +
C) mod 256, C whether that sum exceeds 255, V the signed overflow with the complemented operand, Z and N from
the new A; PC moves past the instruction, CR is the cost minus one, everything else is as before. Cites R102. -/
def Obligations.SbcAddsComplement : Prop :=
    rowsAre .sbc [(0xE1, .izx, 6), (0xE5, .zpp, 3), (0xE9, .imm, 2), (0xED, .abs, 4), (0xF1, .izy, 5), (0xF5, .zpx, 4), (0xF9, .aby, 4), (0xFD, .abx, 4)] ∧
    ∀ (i : Instr) (s : State), i.mnemonic = .sbc → ∃ m, operandValue i s = some m ∧
      let mc := BitVec.ofNat 8 (255 - m.toNat)
      let sum := s.A.toNat + mc.toNat + b2n s.C
      let r := BitVec.ofNat 8 (sum % 256)
      exec i s = .next { past i s with
        A := r, C := decide (255 < sum), Z := r == 0, N := bit r 7
        V := ((s.A ^^^ r) &&& (mc ^^^ r) &&& 0x80) != 0
        CR := costOf i s 0 - 1 }

/-- For every A, M and carry: 256 C' + A' is the exact sum of ADC, and A' plus 256 (C' - 1) the exact difference of
SBC; V' holds exactly if the two's-complement result lies outside -128 to 127. Cites 41_add_subtract.md section
4. -/
def Obligations.AddSubtractSignedOverflow : Prop :=
    ∀ (a m : Byte) (c : Bool),
    let p := addBytes a m c
    let q := subBytes a m c
    p.result.toNat + 256 * b2n p.carry = a.toNat + m.toNat + b2n c ∧
    (p.overflow = true ↔
      ¬(-128 ≤ signed8 a + signed8 m + b2n c ∧ signed8 a + signed8 m + b2n c ≤ 127)) ∧
    (q.result.toNat : Int) + 256 * b2n q.carry = (a.toNat : Int) - m.toNat - (1 - b2n c) + 256 ∧
    (q.overflow = true ↔
      ¬(-128 ≤ signed8 a - signed8 m - (1 - b2n c) ∧ signed8 a - signed8 m - (1 - b2n c) ≤ 127))

/-- From any state, ADC #m completes; SBC #m from its result with the carry set to the complement of the carry ADC
started with completes too, and restores A, and leaves as carry the complement of ADC's carry out (the corrected
law of C1). Cites 41_add_subtract.md section 4, 90_conflicts.md C1. -/
def Obligations.SbcUndoesAdc : Prop :=
    ∀ (s : State) (m : Byte), ∃ t u : State,
    exec (.adcImm m) s = .next t ∧ exec (.sbcImm m) { t with C := !s.C } = .next u ∧
      u.A = s.A ∧ u.C = !t.C

/-- For every form of ADC and SBC and any value d, running it with D set to d gives the outcome of running it as it
is, with D set to d: A and all other flags are the same. Cites R104. -/
def Obligations.DecimalFlagIgnored : Prop :=
    ∀ (i : Instr) (s : State) (d : Bool), (i.mnemonic = .adc ∨ i.mnemonic = .sbc) →
    exec i (s.setD d) = withD d (exec i s) ∧ ∃ t, exec i s = .next t ∧ t.D = s.D

/-- AND and ORA have exactly their eight opcodes and modes each. In every one they complete: A becomes the bitwise
and, or, of A and the operand, Z and N describe it; C, V, I, D and everything else are as before. Cites R111,
R112. -/
def Obligations.AndOraCombineBits : Prop :=
    rowsAre .and [(0x21, .izx, 6), (0x25, .zpp, 3), (0x29, .imm, 2), (0x2D, .abs, 4), (0x31, .izy, 5), (0x35, .zpx, 4), (0x39, .aby, 4), (0x3D, .abx, 4)] ∧
    rowsAre .ora [(0x01, .izx, 6), (0x05, .zpp, 3), (0x09, .imm, 2), (0x0D, .abs, 4), (0x11, .izy, 5), (0x15, .zpx, 4), (0x19, .aby, 4), (0x1D, .abx, 4)] ∧
    (∀ (i : Instr) (s : State), i.mnemonic = .and → ∃ m, operandValue i s = some m ∧
      exec i s = .next { past i s with
        A := s.A &&& m, Z := s.A &&& m == 0, N := bit (s.A &&& m) 7, CR := costOf i s 0 - 1 }) ∧
    ∀ (i : Instr) (s : State), i.mnemonic = .ora → ∃ m, operandValue i s = some m ∧
      exec i s = .next { past i s with
        A := s.A ||| m, Z := s.A ||| m == 0, N := bit (s.A ||| m) 7, CR := costOf i s 0 - 1 }

/-- The compares have exactly their opcodes and modes. In every one they complete: C whether the register is at
least the operand (unsigned), Z whether equal, N bit 7 of the difference modulo 256; no register, no other flag,
no memory changes. Cites R121, R122, R123. -/
def Obligations.CompareSetsThreeFlags : Prop :=
    rowsAre .cpa [(0xC1, .izx, 6), (0xC5, .zpp, 3), (0xC9, .imm, 2), (0xCD, .abs, 4), (0xD1, .izy, 5), (0xD5, .zpx, 4), (0xD9, .aby, 4), (0xDD, .abx, 4)] ∧
    rowsAre .cpx [(0xE0, .imm, 2), (0xE4, .zpp, 3), (0xEC, .abs, 4)] ∧
    rowsAre .cpy [(0xC0, .imm, 2), (0xC4, .zpp, 3), (0xCC, .abs, 4)] ∧
    (∀ (i : Instr) (s : State), i.mnemonic = .cpa → ∃ m, operandValue i s = some m ∧
      exec i s = .next { past i s with
        C := decide (m.toNat ≤ s.A.toNat), Z := decide (s.A = m)
        N := decide (128 ≤ ((s.A.toNat : Int) - m.toNat) % 256), CR := costOf i s 0 - 1 }) ∧
    (∀ (i : Instr) (s : State), i.mnemonic = .cpx → ∃ m, operandValue i s = some m ∧
      exec i s = .next { past i s with
        C := decide (m.toNat ≤ s.X.toNat), Z := decide (s.X = m)
        N := decide (128 ≤ ((s.X.toNat : Int) - m.toNat) % 256), CR := costOf i s 0 - 1 }) ∧
    ∀ (i : Instr) (s : State), i.mnemonic = .cpy → ∃ m, operandValue i s = some m ∧
      exec i s = .next { past i s with
        C := decide (m.toNat ≤ s.Y.toNat), Z := decide (s.Y = m)
        N := decide (128 ≤ ((s.Y.toNat : Int) - m.toNat) % 256), CR := costOf i s 0 - 1 }

/-- Every form of CPA, CPX and CPY completes, and so does SBC of its operand's value from the state whose A is the
compared register and whose C is true; C, Z and N are equal, A, X, Y and V are kept; C is whether the register
is at least the operand, Z whether equal, and equality implies C and not N. Cites 43_compare.md R124 (a derived
law). -/
def Obligations.CompareAgreesWithSbc : Prop :=
    ∀ (i : Instr) (s : State) (rg : Byte), comparedRegister i.mnemonic s = some rg →
      ∃ (m : Byte) (t u : State), operandValue i s = some m ∧ exec i s = .next t ∧
        exec (.sbcImm m) { s with A := rg, C := true } = .next u ∧
        t.C = u.C ∧ t.Z = u.Z ∧ t.N = u.N ∧ t.A = s.A ∧ t.X = s.X ∧ t.Y = s.Y ∧ t.V = s.V ∧
        (t.C = true ↔ m.toNat ≤ rg.toNat) ∧ (t.Z = true ↔ rg = m) ∧
        (t.Z = true → t.C = true ∧ t.N = false)

/-- ASL and LSR have exactly their five opcodes and modes each. In every one they complete: the place the operand
names (the accumulator or the resolved address) receives the result, C the bit shifted out, Z and N describe the
result, PC and CR move on; nothing else changes. Cites R131, R132. -/
def Obligations.ShiftsWriteBack : Prop :=
    rowsAre .asl [(0x06, .zpp, 5), (0x0A, .acc, 2), (0x0E, .abs, 6), (0x16, .zpx, 6), (0x1E, .abx, 7)] ∧
    rowsAre .lsr [(0x46, .zpp, 5), (0x4A, .acc, 2), (0x4E, .abs, 6), (0x56, .zpx, 6), (0x5E, .abx, 7)] ∧
    (∀ (i : Instr) (s : State), i.mnemonic = .asl → ∃ m u, operandValue i s = some m ∧
      let r := BitVec.ofNat 8 ((m.toNat <<< 1) % 256)
      written (operandOf i s).operand r (past i s) = some u ∧
      exec i s = .next { u with
        C := bit m 7, Z := r == 0, N := bit r 7, CR := costOf i s 0 - 1 }) ∧
    ∀ (i : Instr) (s : State), i.mnemonic = .lsr → ∃ m u, operandValue i s = some m ∧
      let r := BitVec.ofNat 8 (m.toNat >>> 1)
      written (operandOf i s).operand r (past i s) = some u ∧
      exec i s = .next { u with
        C := bit m 0, Z := r == 0, N := bit r 7, CR := costOf i s 0 - 1 }

/-- ROL and ROR have exactly their five opcodes and modes each. In every one they complete: the place the operand
names receives the value shifted one place with the old carry in the freed bit, C the bit shifted out, Z and N
describe the result; nothing else changes. Cites R133, R134. -/
def Obligations.RotatesWriteBack : Prop :=
    rowsAre .rol [(0x26, .zpp, 5), (0x2A, .acc, 2), (0x2E, .abs, 6), (0x36, .zpx, 6), (0x3E, .abx, 7)] ∧
    rowsAre .ror [(0x66, .zpp, 5), (0x6A, .acc, 2), (0x6E, .abs, 6), (0x76, .zpx, 6), (0x7E, .abx, 7)] ∧
    (∀ (i : Instr) (s : State), i.mnemonic = .rol → ∃ m u, operandValue i s = some m ∧
      let r := BitVec.ofNat 8 (((m.toNat <<< 1) ||| b2n s.C) % 256)
      written (operandOf i s).operand r (past i s) = some u ∧
      exec i s = .next { u with
        C := bit m 7, Z := r == 0, N := bit r 7, CR := costOf i s 0 - 1 }) ∧
    ∀ (i : Instr) (s : State), i.mnemonic = .ror → ∃ m u, operandValue i s = some m ∧
      let r := BitVec.ofNat 8 ((m.toNat >>> 1) ||| (b2n s.C <<< 7))
      written (operandOf i s).operand r (past i s) = some u ∧
      exec i s = .next { u with
        C := bit m 0, Z := r == 0, N := bit r 7, CR := costOf i s 0 - 1 }

/-- For every byte and carry: ROR undoes ROL and conversely; nine rotations either way restore both, eight either
way only the all-zero and the all-one pair; ASL is ROL and LSR is ROR with carry clear; ASL doubles, LSR halves.
From every state, ROL and then ROR of one absolute address complete, and restore its byte, C and every other
byte. Cites 44_shift_rotate.md section 3, 90_conflicts.md C2. -/
def Obligations.RotationLaws : Prop :=
    (∀ (v : Byte) (c : Bool),
      let left := fun x : Shifted => rol x.result x.carryOut
      let right := fun x : Shifted => ror x.result x.carryOut
      right (rol v c) = ⟨v, c⟩ ∧ left (ror v c) = ⟨v, c⟩ ∧
      iterate left 9 ⟨v, c⟩ = ⟨v, c⟩ ∧ iterate right 9 ⟨v, c⟩ = ⟨v, c⟩ ∧
      (iterate left 8 ⟨v, c⟩ = ⟨v, c⟩ ↔ (v = 0 ∧ c = false) ∨ (v = 0xFF ∧ c = true)) ∧
      (iterate right 8 ⟨v, c⟩ = ⟨v, c⟩ ↔ (v = 0 ∧ c = false) ∨ (v = 0xFF ∧ c = true)) ∧
      asl v c = rol v false ∧ lsr v c = ror v false ∧
      (asl v c).result.toNat + 256 * b2n (asl v c).carryOut = 2 * v.toNat ∧
      2 * (lsr v c).result.toNat + b2n (lsr v c).carryOut = v.toNat) ∧
    ∀ (s : State) (w : Word), ∃ t u : State,
      exec (.rolAbs w) s = .next t ∧ exec (.rorAbs w) t = .next u ∧
        u.A = s.A ∧ u.C = s.C ∧ ∀ b : Word, u.read b = s.read b

/-- The loads have exactly their opcodes, modes and base costs. In every form they complete: the register becomes
the operand's value, Z and N describe it; nothing else changes but PC and CR. Cites R204, R205, R206. (EXT,
general knowledge.) -/
def Obligations.LoadsFillRegister : Prop :=
    rowsAre .lda [(0xA1, .izx, 6), (0xA5, .zpp, 3), (0xA9, .imm, 2), (0xAD, .abs, 4), (0xB1, .izy, 5), (0xB5, .zpx, 4), (0xB9, .aby, 4), (0xBD, .abx, 4)] ∧
    rowsAre .ldx [(0xA2, .imm, 2), (0xA6, .zpp, 3), (0xAE, .abs, 4), (0xB6, .zpy, 4), (0xBE, .aby, 4)] ∧
    rowsAre .ldy [(0xA0, .imm, 2), (0xA4, .zpp, 3), (0xAC, .abs, 4), (0xB4, .zpx, 4), (0xBC, .abx, 4)] ∧
    (∀ (i : Instr) (s : State), i.mnemonic = .lda → ∃ m, operandValue i s = some m ∧
      exec i s = .next { past i s with
        A := m, Z := m == 0, N := bit m 7, CR := costOf i s 0 - 1 }) ∧
    (∀ (i : Instr) (s : State), i.mnemonic = .ldx → ∃ m, operandValue i s = some m ∧
      exec i s = .next { past i s with
        X := m, Z := m == 0, N := bit m 7, CR := costOf i s 0 - 1 }) ∧
    ∀ (i : Instr) (s : State), i.mnemonic = .ldy → ∃ m, operandValue i s = some m ∧
      exec i s = .next { past i s with
        Y := m, Z := m == 0, N := bit m 7, CR := costOf i s 0 - 1 }

/-- The stores have exactly their opcodes, modes and base costs. In every form they complete: the byte at the
resolved address becomes the register's, at a fixed cost; no register, flag or other byte changes but PC and CR.
Cites R207, R208, R209. (EXT, general knowledge.) -/
def Obligations.StoresWriteRegister : Prop :=
    rowsAre .sta [(0x81, .izx, 6), (0x85, .zpp, 3), (0x8D, .abs, 4), (0x91, .izy, 6), (0x95, .zpx, 4), (0x99, .aby, 5), (0x9D, .abx, 5)] ∧
    rowsAre .stx [(0x86, .zpp, 3), (0x8E, .abs, 4), (0x96, .zpy, 4)] ∧
    rowsAre .sty [(0x84, .zpp, 3), (0x8C, .abs, 4), (0x94, .zpx, 4)] ∧
    (∀ (i : Instr) (s : State), i.mnemonic = .sta → ∃ a,
      (operandOf i s).operand = .addr a ∧
      exec i s = .next { (past i s).write a s.A with CR := costOf i s 0 - 1 }) ∧
    (∀ (i : Instr) (s : State), i.mnemonic = .stx → ∃ a,
      (operandOf i s).operand = .addr a ∧
      exec i s = .next { (past i s).write a s.X with CR := costOf i s 0 - 1 }) ∧
    ∀ (i : Instr) (s : State), i.mnemonic = .sty → ∃ a,
      (operandOf i s).operand = .addr a ∧
      exec i s = .next { (past i s).write a s.Y with CR := costOf i s 0 - 1 }

/-- Each transfer has its one opcode, is one byte and two cycles, and completes: the target becomes the source, Z
and N describe it except for TXS, which writes no flag; nothing else changes but PC and CR. Cites R210, R211,
R212, R213, R214, R215. (EXT, general knowledge.) -/
def Obligations.TransfersCopyRegister : Prop :=
    rowsAre .tax [(0xAA, .imp, 2)] ∧
    rowsAre .tay [(0xA8, .imp, 2)] ∧
    rowsAre .txa [(0x8A, .imp, 2)] ∧
    rowsAre .tya [(0x98, .imp, 2)] ∧
    rowsAre .tsx [(0xBA, .imp, 2)] ∧
    rowsAre .txs [(0x9A, .imp, 2)] ∧
    ∀ s : State,
    exec .tax s = .next { past .tax s with X := s.A, Z := s.A == 0, N := bit s.A 7, CR := 1 } ∧
    exec .tay s = .next { past .tay s with Y := s.A, Z := s.A == 0, N := bit s.A 7, CR := 1 } ∧
    exec .txa s = .next { past .txa s with A := s.X, Z := s.X == 0, N := bit s.X 7, CR := 1 } ∧
    exec .tya s = .next { past .tya s with A := s.Y, Z := s.Y == 0, N := bit s.Y 7, CR := 1 } ∧
    exec .tsx s = .next { past .tsx s with X := s.SP, Z := s.SP == 0, N := bit s.SP 7, CR := 1 } ∧
    exec .txs s = .next { past .txs s with SP := s.X, CR := 1 }

/-- INC and DEC have exactly their four opcodes, modes and base costs each. In every form they complete: the byte at
the resolved address becomes itself plus, minus, one modulo 256; Z and N describe it; C, V and everything else
are as before. Cites R216, R217. (EXT, general knowledge.) -/
def Obligations.MemoryIncrementDecrement : Prop :=
    rowsAre .inc [(0xE6, .zpp, 5), (0xEE, .abs, 6), (0xF6, .zpx, 6), (0xFE, .abx, 7)] ∧
    rowsAre .dec [(0xC6, .zpp, 5), (0xCE, .abs, 6), (0xD6, .zpx, 6), (0xDE, .abx, 7)] ∧
    (∀ (i : Instr) (s : State), i.mnemonic = .inc → ∃ a,
      (operandOf i s).operand = .addr a ∧
      let r := BitVec.ofNat 8 (((s.read a).toNat + 1) % 256)
      exec i s = .next { (past i s).write a r with
        Z := r == 0, N := bit r 7, CR := costOf i s 0 - 1 }) ∧
    ∀ (i : Instr) (s : State), i.mnemonic = .dec → ∃ a,
      (operandOf i s).operand = .addr a ∧
      let r := BitVec.ofNat 8 (((s.read a).toNat + 255) % 256)
      exec i s = .next { (past i s).write a r with
        Z := r == 0, N := bit r 7, CR := costOf i s 0 - 1 }

/-- Each has its one opcode, is one byte and two cycles, and completes: the register becomes itself plus, minus, one
modulo 256, Z and N describe it; nothing else changes but PC and CR. Cites R218, R219, R220, R221. (EXT, general
knowledge.) -/
def Obligations.RegisterIncrementDecrement : Prop :=
    rowsAre .inx [(0xE8, .imp, 2)] ∧
    rowsAre .iny [(0xC8, .imp, 2)] ∧
    rowsAre .dex [(0xCA, .imp, 2)] ∧
    rowsAre .dey [(0x88, .imp, 2)] ∧
    ∀ s : State,
    (let r := BitVec.ofNat 8 ((s.X.toNat + 1) % 256);
      exec .inx s = .next { past .inx s with X := r, Z := r == 0, N := bit r 7, CR := 1 }) ∧
    (let r := BitVec.ofNat 8 ((s.Y.toNat + 1) % 256);
      exec .iny s = .next { past .iny s with Y := r, Z := r == 0, N := bit r 7, CR := 1 }) ∧
    (let r := BitVec.ofNat 8 ((s.X.toNat + 255) % 256);
      exec .dex s = .next { past .dex s with X := r, Z := r == 0, N := bit r 7, CR := 1 }) ∧
    (let r := BitVec.ofNat 8 ((s.Y.toNat + 255) % 256);
      exec .dey s = .next { past .dey s with Y := r, Z := r == 0, N := bit r 7, CR := 1 })

/-- EOR and BIT have exactly their opcodes, modes and base costs. In every form they complete: EOR writes A, Z and
N; BIT writes Z, N and V and changes neither A nor memory; everything else is as before but PC and CR. Cites
R222, R223. (EXT, general knowledge.) -/
def Obligations.EorAndBit : Prop :=
    rowsAre .eor [(0x41, .izx, 6), (0x45, .zpp, 3), (0x49, .imm, 2), (0x4D, .abs, 4), (0x51, .izy, 5), (0x55, .zpx, 4), (0x59, .aby, 4), (0x5D, .abx, 4)] ∧
    rowsAre .bit [(0x24, .zpp, 3), (0x2C, .abs, 4)] ∧
    (∀ (i : Instr) (s : State), i.mnemonic = .eor → ∃ m, operandValue i s = some m ∧
      exec i s = .next { past i s with
        A := s.A ^^^ m, Z := s.A ^^^ m == 0, N := bit (s.A ^^^ m) 7, CR := costOf i s 0 - 1 }) ∧
    ∀ (i : Instr) (s : State), i.mnemonic = .bit → ∃ m, operandValue i s = some m ∧
      exec i s = .next { past i s with
        Z := s.A &&& m == 0, N := bit m 7, V := bit m 6, CR := costOf i s 0 - 1 }

/-- Each has its one opcode, is one byte and two cycles, and completes: the flag instruction writes its flag and no
other; NOP writes none; nothing else changes but PC and CR. Cites R224, R225, R226, R227, R228, R229, R230,
R231. (EXT, general knowledge.) -/
def Obligations.FlagInstructionsAndNop : Prop :=
    rowsAre .clc [(0x18, .imp, 2)] ∧
    rowsAre .sec [(0x38, .imp, 2)] ∧
    rowsAre .cli [(0x58, .imp, 2)] ∧
    rowsAre .sei [(0x78, .imp, 2)] ∧
    rowsAre .cld [(0xD8, .imp, 2)] ∧
    rowsAre .sed [(0xF8, .imp, 2)] ∧
    rowsAre .clv [(0xB8, .imp, 2)] ∧
    rowsAre .nop [(0xEA, .imp, 2)] ∧
    ∀ s : State,
    exec .clc s = .next { past .clc s with C := false, CR := 1 } ∧
    exec .sec s = .next { past .sec s with C := true, CR := 1 } ∧
    exec .cli s = .next { past .cli s with I := false, CR := 1 } ∧
    exec .sei s = .next { past .sei s with I := true, CR := 1 } ∧
    exec .cld s = .next { past .cld s with D := false, CR := 1 } ∧
    exec .sed s = .next { past .sed s with D := true, CR := 1 } ∧
    exec .clv s = .next { past .clv s with V := false, CR := 1 } ∧
    exec .nop s = .next { past .nop s with CR := 1 }

/-- Each branch has its one opcode. It completes in every state: if its condition holds PC becomes the address after
it plus the signed displacement modulo 65536, at 3 cycles, or 4 if that is another page than the address after
it; else PC becomes the address after it, at 2 cycles. No flag, register or byte changes. Cites R254, R255,
R256, R257, R258, R259, R260, R261, R262. (EXT, general knowledge.) -/
def Obligations.BranchesTakeOrFallThrough : Prop :=
    rowsAre .bpl [(0x10, .rel, 2)] ∧
    rowsAre .bmi [(0x30, .rel, 2)] ∧
    rowsAre .bvc [(0x50, .rel, 2)] ∧
    rowsAre .bvs [(0x70, .rel, 2)] ∧
    rowsAre .bcc [(0x90, .rel, 2)] ∧
    rowsAre .bcs [(0xB0, .rel, 2)] ∧
    rowsAre .bne [(0xD0, .rel, 2)] ∧
    rowsAre .beq [(0xF0, .rel, 2)] ∧
    ∀ (i : Instr) (s : State) (taken : Bool), branchCondition i.mnemonic s = some taken →
      ∃ d, i.arg = .rel d ∧
      let next := s.PC + 2
      let target := BitVec.ofInt 16 ((next.toNat : Int) + signed8 d)
      exec i s = .next { s with
        PC := if taken then target else next
        CR := if taken then (if target.toNat / 256 = next.toNat / 256 then 2 else 3) else 1 }

/-- JMP has exactly its two opcodes. It completes: PC becomes the word itself, or the word at that pointer whose
second byte is taken from the same page; CR is 2 or 4; no flag, register or byte changes. Cites R263. (EXT,
general knowledge.) -/
def Obligations.JumpsGoToTarget : Prop :=
    rowsAre .jmp [(0x4C, .abs, 3), (0x6C, .ind, 5)] ∧
    ∀ (w : Word) (s : State),
    exec (.jmpAbs w) s = .next { s with PC := w, CR := 2 } ∧
    exec (.jmpInd w) s = .next { s with
      PC := w16 (s.read (w16 (hi w) (lo w + 1))) (s.read w), CR := 4 }

/-- Each has its one opcode. JSR completes: the bytes at 0x0100 + SP and 0x0100 + (SP - 1) mod 256 become the high
and low byte of PC + 2, SP drops by 2 modulo 256, PC becomes the target, CR 5. RTS completes: PC becomes one
more than the word pulled, low byte first, SP rises by 2 modulo 256, CR 5. Nothing else changes. Cites R264,
R265. (EXT, general knowledge.) -/
def Obligations.JsrPushesAndRtsPulls : Prop :=
    rowsAre .jsr [(0x20, .abs, 6)] ∧
    rowsAre .rts [(0x60, .imp, 6)] ∧
    ∀ (w : Word) (s : State),
    let ret := s.PC + 2
    let at0 : Byte → Word := fun p => BitVec.ofNat 16 (256 + p.toNat)
    exec (.jsr w) s = .next { (s.write (at0 s.SP) (hi ret)).write (at0 (s.SP - 1)) (lo ret) with
      SP := s.SP - 2, PC := w, CR := 5 } ∧
    exec .rts s = .next { s with
      SP := s.SP + 2, PC := w16 (s.read (at0 (s.SP + 2))) (s.read (at0 (s.SP + 1))) + 1, CR := 5 }

/-- Each has its one opcode. PHA completes: the byte at 0x0100 + SP becomes A, SP drops by 1 modulo 256, CR 2. PLA
completes: A becomes the byte at 0x0100 + (SP + 1) mod 256, SP rises by 1 modulo 256, Z and N describe A, CR 3.
Nothing else changes but PC. Cites R266, R267. (EXT, general knowledge.) -/
def Obligations.PhaPushesAndPlaPulls : Prop :=
    rowsAre .pha [(0x48, .imp, 3)] ∧
    rowsAre .pla [(0x68, .imp, 4)] ∧
    ∀ s : State,
    let at0 : Byte → Word := fun p => BitVec.ofNat 16 (256 + p.toNat)
    let v := s.read (at0 (s.SP + 1))
    exec .pha s = .next { (past .pha s).write (at0 s.SP) s.A with SP := s.SP - 1, CR := 2 } ∧
    exec .pla s = .next { past .pla s with
      A := v, SP := s.SP + 1, Z := v == 0, N := bit v 7, CR := 3 }

/-- From every state JSR completes; RTS run from its target completes too, with PC three past the JSR, SP, A, X, Y
and all flags as before the JSR, and memory as the JSR left it. From every state PHA completes; PLA from its
result, with any other accumulator, completes too, with A and SP as before PHA and Z and N describing A. Cites
49_extension_control.md sections 3 and 4. (EXT, general knowledge.) -/
def Obligations.StackRoundTrips : Prop :=
    (∀ (w : Word) (s : State), ∃ t u : State,
      exec (.jsr w) s = .next t ∧ exec .rts t = .next u ∧
        u = { s with PC := s.PC + 3, CR := 5, mem := t.mem }) ∧
    ∀ (s : State) (v : Byte), ∃ t u : State,
      exec .pha s = .next t ∧ exec .pla { t with A := v } = .next u ∧
        u.A = s.A ∧ u.SP = s.SP ∧ u.Z = decide (s.A = 0) ∧ u.N = bit s.A 7

/-- For each of the 147 instructions, at every operand value and in every state, exec answers a next state; it never
faults and never refuses. Cites R160. -/
def Obligations.EveryInstructionCompletes : Prop :=
    ∀ (i : Instr) (s : State), ∃ t, exec i s = .next t

/-- Every instruction completes, and each of the flags C, Z, I, D, V, N that its rule does not list as written has
its old value afterwards (the lists: flagsWritten). Cites R22. -/
def Obligations.FlagFrame : Prop :=
    ∀ (i : Instr) (s : State), ∃ t, exec i s = .next t ∧
    (.C ∉ flagsWritten i.mnemonic → t.C = s.C) ∧ (.Z ∉ flagsWritten i.mnemonic → t.Z = s.Z) ∧
    (.I ∉ flagsWritten i.mnemonic → t.I = s.I) ∧ (.D ∉ flagsWritten i.mnemonic → t.D = s.D) ∧
    (.V ∉ flagsWritten i.mnemonic → t.V = s.V) ∧ (.N ∉ flagsWritten i.mnemonic → t.N = s.N)

/-- Every instruction completes, and each of A, X, Y and SP that its rule does not list as written has its old value
afterwards (the lists: registersWritten; a shift writes A in mode ACC only). Cites 10_state.md sections 1 and 2,
48_extension_data.md sections 2 to 7, 49_extension_control.md sections 2 to 4. -/
def Obligations.RegisterFrame : Prop :=
    ∀ (i : Instr) (s : State), ∃ t, exec i s = .next t ∧
    (.A ∉ registersWritten i → t.A = s.A) ∧ (.X ∉ registersWritten i → t.X = s.X) ∧
    (.Y ∉ registersWritten i → t.Y = s.Y) ∧ (.SP ∉ registersWritten i → t.SP = s.SP)

/-- Every instruction completes, and every byte whose address is neither the resolved address of a store or read-
modify-write instruction nor a stack address of PHA or JSR reads as before; so forms that store nothing change
no byte. What it says of profile EXT (stores, INC, DEC, PHA, JSR and every other EXT form) rests on general
knowledge (log 11). Cites 20_memory.md sections 1 and 5, 44_shift_rotate.md section 1, 48_extension_data.md
sections 2 to 7 (R216 and R217 in section 5), 49_extension_control.md sections 1 to 4 (R266 in section 4), log
11. -/
def Obligations.MemoryFrame : Prop :=
    ∀ (i : Instr) (s : State), ∃ t, exec i s = .next t ∧
    ∀ b : Word, storeAddress i s ≠ some b → b ∉ pushAddresses i s → t.read b = s.read b

/-- Whatever the state, a CORE tick that answers a next state leaves X, Y, SP, I and D as they were: only reset and
the host write them. Cites 10_state.md sections 2 and 4. -/
def Obligations.CoreTicksKeepIndexRegisters : Prop :=
    ∀ s t : State, stepIn .core s = .next t →
    t.X = s.X ∧ t.Y = s.Y ∧ t.SP = s.SP ∧ t.I = s.I ∧ t.D = s.D

/-- SetZN(v) writes Z and N from v and nothing else. Every CORE instruction completes, and Z is then whether its
result is zero and N its bit 7, never both true: the result is the new A of ADC, SBC, AND, ORA, the register
minus the operand of a compare, the byte a shift or rotate leaves in its operand (resultByte). Reset and the
host's accessors can make Z and N any pair. Cites R23. -/
def Obligations.CoreResultSetsZeroNegative : Prop :=
    (∀ (v : Byte) (s : State), setZN v s = { s with Z := v == 0, N := bit v 7 }) ∧
    (∀ (i : Instr) (s : State), i.mnemonic.isCore = true → ∃ t r, exec i s = .next t ∧
      resultByte i s t = some r ∧ t.Z = (r == 0) ∧ t.N = bit r 7 ∧ ¬(t.Z = true ∧ t.N = true)) ∧
    ∀ (p : Profile) (init : Init) (s : State) (z n : Bool),
      hostRun p init [.writeZ z, .writeN n] s = .next { s with Z := z, N := n } ∧
      ∃ t, hostAct p { init with Z := z, N := n } .reset s = .next t ∧ t.Z = z ∧ t.N = n

/-- Every instruction whose mnemonic is none of the branches, JMP, JSR, RTS completes with PC its length further
modulo 65536; its length is that of its encoding and is 1, 2 or 3. Cites 10_state.md section 3, 30_encoding.md
section 1. -/
def Obligations.PcMovesPastInstruction : Prop :=
    ∀ (i : Instr) (s : State),
    (encode i).length = i.size ∧ (i.size = 1 ∨ i.size = 2 ∨ i.size = 3) ∧
    (i.mnemonic.opClass ≠ .branch → i.mnemonic.opClass ≠ .jump →
      ∃ t, exec i s = .next t ∧ t.PC = BitVec.ofNat 16 (s.PC.toNat + i.size))

/-- Every instruction completes with CR + 1 equal to the base cycles of the table entry at its opcode, plus 1 if a
page was crossed and the entry is read-only, plus, for a taken branch, 1, or 2 to another page; this cost is
between 2 and 7. Cites 45_execution_engine.md section 2, 48_extension_data.md section 1, 49_extension_control.md
section 2. -/
def Obligations.InstructionCost : Prop :=
    ∀ (i : Instr) (s : State), ∃ t e, exec i s = .next t ∧ lookup .ext i.opcode = some e ∧
    t.CR + 1 = e.baseCycles + (if (operandOf i s).crossed && e.isReadOnly then 1 else 0)
      + extraCycles i s ∧ 2 ≤ t.CR + 1 ∧ t.CR + 1 ≤ 7

/-- Every read-only instruction completes; in modes ABX, ABY and IZY its cost is the base cost plus one if a page is
crossed and the base cost otherwise; in every other mode no page is crossed and it is the base cost. ASL, LSR,
ROL and ROR (and INC and DEC of EXT) in mode ABX complete at a cost of 7, whatever the index. What it says of
EXT forms (LDA, LDX, LDY, EOR, BIT, INC, DEC) rests on general knowledge (log 11). Cites 45_execution_engine.md
section 2 (R153, R154), 48_extension_data.md sections 1 (R202), 2, 5 (R216, R217) and 6, log 11. -/
def Obligations.PageCrossPenalty : Prop :=
    (∀ (i : Instr) (s : State), i.mnemonic.opClass = .readOnly →
      ∃ t e, exec i s = .next t ∧ lookup .ext i.opcode = some e ∧
        ((i.mode = .abx ∨ i.mode = .aby ∨ i.mode = .izy) →
          t.CR + 1 = if (operandOf i s).crossed then e.baseCycles + 1 else e.baseCycles) ∧
        (¬(i.mode = .abx ∨ i.mode = .aby ∨ i.mode = .izy) →
          (operandOf i s).crossed = false ∧ t.CR + 1 = e.baseCycles)) ∧
    ∀ (w : Word) (s : State),
      ∀ i ∈ [Instr.aslAbx w, .lsrAbx w, .rolAbx w, .rorAbx w, .incAbx w, .decAbx w],
        ∃ t e, exec i s = .next t ∧ lookup .ext i.opcode = some e ∧ e.baseCycles = 7 ∧
          t.CR + 1 = e.baseCycles

/-- If CR is 0 and the three bytes at PC, PC + 1, PC + 2 (modulo 65536) decode, in the profile the model runs (the
model's choice, log 1), to an instruction, the instruction is well-formed and step is exec of it on that very
state: exec moves PC past its bytes and loads CR, and step adds nothing. Cites 45_execution_engine.md section 1,
30_encoding.md section 1, log 1. -/
def Obligations.StepRunsDecodedInstruction : Prop :=
    ∀ (s : State) (i : Instr) (rest : List Byte), s.CR = 0 →
    decode Config.profile [s.read s.PC, s.read (s.PC + 1), s.read (s.PC + 2)] = .instr i rest →
      i.wellFormed Config.profile = true ∧ step s = exec i s

/-- In either profile, from every state with CR above 0, the tick answers that state with CR one less: no register,
flag or byte changes, and the decoder is not consulted. Cites R143. -/
def Obligations.RunningTickOnlyCounts : Prop :=
    ∀ (p : Profile) (s : State), 0 < s.CR → stepIn p s = .next { s with CR := s.CR - 1 }

/-- In either profile and every state: the tick faults exactly if CR is 0 and the byte at PC has no table entry; the
fault carries that byte and PC; the state a faulting tick leaves is the state before it; and no tick is refused.
Cites R161. -/
def Obligations.UndefinedOpcodeFaults : Prop :=
    ∀ (p : Profile) (s : State),
    (∀ f, stepIn p s = .fault f ↔
      s.CR = 0 ∧ lookup p (s.read s.PC) = none ∧ f = .undefinedOpcode (s.read s.PC) s.PC) ∧
    (∀ f, stepIn p s = .fault f → afterTick p s = s) ∧
    ∀ r, stepIn p s ≠ .refused r

/-- If a tick faults, the tick from the state it leaves faults with the same reason; and a run of host actions that
ticks into a fault answers that fault whatever actions would follow (the sticky mark of log 7). Cites
60_exceptions.md section 1, log 7. -/
def Obligations.FaultRepeatsAndSticks : Prop :=
    ∀ (p : Profile) (s : State) (f : Fault), stepIn p s = .fault f →
    stepIn p (afterTick p s) = .fault f ∧
    ∀ (init : Init) (before after : List HostAction) (t : State), hostRun p init before t = .next s →
      hostRun p init (before ++ .tick :: after) t = .fault f

/-- For every profile and state, the outcome of the tick (decode first, then one meaning per instruction) is the
outcome of Tick() as the spec writes it: test CR; fetch with Fetch8, look up the entry, resolve by the entry's
mode advancing PC, run the effect of the entry's mnemonic, load CR from the entry's base cycles and class. Cites
R141, R142. -/
def Obligations.StepFollowsPseudocode : Prop :=
    ∀ (p : Profile) (s : State), stepIn p s = forgetLog (tickLogged p s)

/-- For every decoded instruction the access log of the Idle tick is exactly: the reads of the opcode and operand
bytes at ascending addresses; the pointer reads of IZX, IZY or IND, low byte first; then the one read of a read-
only instruction's address, the read and the write of a read-modify-write instruction's address, the one write
of a store, or the stack accesses of PHA, PLA, JSR, RTS. A written byte is the one memory holds afterwards. R51
says this of the CORE forms; the clauses on IND pointers, on stores, INC and DEC, on the stack and on the other
EXT forms rest on the EXT rules, general knowledge (log 11). Cites 20_memory.md section 5 (R51),
40_addressing_modes.md sections 2 and 5, 48_extension_data.md sections 2 to 7 (R207 to R209 in section 3),
49_extension_control.md sections 1 to 4 (R253, R263 to R267, R269), log 11. -/
def Obligations.MemoryAccessSequence : Prop :=
    ∀ (p : Profile) (s : State) (i : Instr), decodedAt p s = some i →
    ∃ t, idleTickLogged p s = .next ⟨t, tickAccesses i s t⟩

/-- If an Idle tick answers t, then after k further ticks, for every k up to t.CR, the state is t with CR less by k:
at t.CR further ticks it is at an instruction boundary, and at no earlier one. Cites 45_execution_engine.md
sections 1 to 3. -/
def Obligations.CountdownKeepsResult : Prop :=
    ∀ s t : State, s.CR = 0 → step s = .next t → ∀ k, k ≤ t.CR →
    core.run (1 + k) s = .next { t with CR := t.CR - k }

/-- At an instruction boundary, if InstrStep answers a state and a number n, then n ticks answer that state, it is
at a boundary, n is between 2 and 7, and no smaller positive number of ticks ends at a boundary; if the tick
faults, InstrStep faults alike. Cites 45_execution_engine.md section 4. -/
def Obligations.InstrStepIsItsTicks : Prop :=
    ∀ s : State, s.CR = 0 →
    (∀ t n, instrStep Config.profile s = .next (t, n) →
      core.run n s = .next t ∧ t.CR = 0 ∧ 2 ≤ n ∧ n ≤ 7 ∧
      ∀ k, 0 < k → k < n → ∃ u, core.run k s = .next u ∧ u.CR ≠ 0) ∧
    ∀ f, step s = .fault f ↔ instrStep Config.profile s = .fault f

/-- For every profile and state that meets the invariant (cells of the space at strictly rising addresses, none
listed that reads as an unlisted byte; CR at most 6), every next state of a tick meets it too, and so does that
of any run of host actions on a Cpu constructed with INIT_CR at most 6; with any INIT values such a run keeps
the memory canonical. Cites 10_state.md section 5, 20_memory.md section 1, log 2. -/
def Obligations.StepKeepsInvariant : Prop :=
    ∀ (p : Profile) (s : State), s.Inv →
    (∀ t, stepIn p s = .next t → t.Inv) ∧
    (∀ init acts t, hostRun p init acts s = .next t → t.mem.wf ∧ (init.CR ≤ 6 → t.Inv))

/-- State.reset is construct of the default INIT values on the empty list, with PC 0x0000 because an unlisted byte
reads 0x00 (the model's choice, log 2), and meets the invariant; so does every state constructed on a canonical
memory with INIT_CR at most 6. Cites 10_state.md section 8, 70_reset_and_hazards.md section 1, log 2, log 3. -/
def Obligations.ResetMeetsInvariant : Prop :=
    State.reset = construct Config.init [] ∧ State.reset.PC = 0 ∧ State.reset.Inv ∧
    ∀ (p : Init) (m : Memory), m.wf → p.CR ≤ 6 → (construct p m).Inv

/-- Two cell lists in the canonical form that read alike at every address of the space are equal; and for every
assignment of bytes to addresses there is a canonical memory that reads so: what an unlisted byte reads as (the
model's choice, log 2) excludes no initial contents of the host. Cites 20_memory.md sections 1 and 7, log 2. -/
def Obligations.CanonicalMemoryRepresentsContents : Prop :=
    (∀ m m' : Memory, m.wf → m'.wf → (∀ a, a < 65536 → m.read a = m'.read a) → m = m') ∧
    ∀ f : Word → Byte, ∃ m : Memory, m.wf ∧ ∀ a : Word, m.read a.toNat = f a

/-- For every state, address and byte: after the write the address reads the byte, every other address reads as
before, and no register, flag or counter changes. Cites R42. -/
def Obligations.ReadAfterWrite : Prop :=
    ∀ (s : State) (a : Word) (v : Byte),
    (s.write a v).read a = v ∧ (∀ b, b ≠ a → (s.write a v).read b = s.read b) ∧
    s.write a v = { s with mem := (s.write a v).mem }

/-- For all INIT values and every state, Running or Idle: after the host's Reset of a Cpu with those values PC is
the byte at 0xFFFC plus 256 times that at 0xFFFD, A, X, Y, SP, the six flags and CR are the INIT values (whose
defaults are zero and false), and memory is untouched; its accesses are exactly the read of 0xFFFC and then that
of 0xFFFD. Cites R180. -/
def Obligations.ResetReinitialises : Prop :=
    (∀ (p : Init) (s : State), resetAgain p s =
      { A := p.A, X := p.X, Y := p.Y, SP := p.SP
        PC := BitVec.ofNat 16 ((s.read 0xFFFC).toNat + 256 * (s.read 0xFFFD).toNat)
        C := p.C, Z := p.Z, I := p.I, D := p.D, V := p.V, N := p.N, CR := p.CR, mem := s.mem }) ∧
    Config.init = ⟨0, 0, 0, 0, false, false, false, false, false, false, 0⟩ ∧
    (∀ (p : Profile) (init : Init) (s : State), hostAct p init .reset s = .next (resetAgain init s)) ∧
    ∀ (p : Init) (t : Logged),
      resetLogged p t = ⟨resetAgain p t.state, t.log ++ [.read 0xFFFC, .read 0xFFFD]⟩

/-- In every state, Running or Idle, the write accessor of A, X, Y, SP, PC, C, Z, I, D, V or N gives that element
the value and changes nothing else, CR in particular; CR has none. Cites R30. -/
def Obligations.HostWritesOneElement : Prop :=
    ∀ (p : Profile) (init : Init) (s : State) (v : Byte) (w : Word) (b : Bool),
    hostAct p init (.writeA v) s = .next { s with A := v } ∧
    hostAct p init (.writeX v) s = .next { s with X := v } ∧
    hostAct p init (.writeY v) s = .next { s with Y := v } ∧
    hostAct p init (.writeSP v) s = .next { s with SP := v } ∧
    hostAct p init (.writePC w) s = .next { s with PC := w } ∧
    hostAct p init (.writeC b) s = .next { s with C := b } ∧
    hostAct p init (.writeZ b) s = .next { s with Z := b } ∧
    hostAct p init (.writeI b) s = .next { s with I := b } ∧
    hostAct p init (.writeD b) s = .next { s with D := b } ∧
    hostAct p init (.writeV b) s = .next { s with V := b } ∧
    hostAct p init (.writeN b) s = .next { s with N := b }

/-- If a run toward an address reports it reached, the final state is at an instruction boundary with PC that
address, the ticks used are within the budget, and the run is never reported so across a fault: that many ticks
of the machine answer that state. Cites 70_reset_and_hazards.md section 3. -/
def Obligations.RunsEndAtTheNamedAddress : Prop :=
    ∀ (finish : Word) (budget : Nat) (s t : State) (n : Nat),
    runToward Config.profile finish budget 0 s = .reached t n →
      t.CR = 0 ∧ t.PC = finish ∧ n ≤ budget ∧ core.run n s = .next t ∧
      ∀ k u, k < n → core.run k s = .next u → ¬(u.CR = 0 ∧ u.PC = finish)

/-- If a word decodes to an instruction, then from every state s the step of s.withFetchWord is exec of that
instruction on it; and placing it changes nothing but the three bytes at PC and CR (the model's convention, log
5). Cites 45_execution_engine.md section 1, log 5. -/
def Obligations.PlacedWordRunsNext : Prop :=
    ∀ (s : State) (nbits w : Nat) (i : Instr), decodeTableWord nbits w = some i →
    step (s.withFetchWord nbits w) = exec i (s.withFetchWord nbits w) ∧
    (∀ b : Word, b ≠ s.PC → b ≠ s.PC + 1 → b ≠ s.PC + 2 →
      (s.withFetchWord nbits w).read b = s.read b) ∧
    s.withFetchWord nbits w = { s with CR := 0, mem := (s.withFetchWord nbits w).mem }

/-- A host constructs a Cpu with any INIT values on any memory. If its actions since then answer a state, a reset
after them answers the construction with the same INIT values on the memory of that state; and a session without
actions is the construction. Cites 70_reset_and_hazards.md sections 1 and 4, 10_state.md section 8. -/
def Obligations.ResetRepeatsConstruction : Prop :=
    ∀ (p : Profile) (init : Init) (m : Memory) (acts : List HostAction) (u : State),
    hostSession p init m [] = .next (construct init m) ∧
    (hostSession p init m acts = .next u →
      hostSession p init m (acts ++ [.reset]) = .next (construct init u.mem))
end

