-- ==== Sys2Proof/Laws/State.lean ====
section
/-! SUPPORT. One lemma per field per update of the state, true by rfl: a later proof unfolds no record update. -/

namespace Sys2Proof.Machine

section Setters
variable (s : State)

-- the fields after `setA`
@[simp] theorem State.setA_A (v : Byte) : (s.setA v).A = v := rfl
@[simp] theorem State.setA_X (v : Byte) : (s.setA v).X = s.X := rfl
@[simp] theorem State.setA_Y (v : Byte) : (s.setA v).Y = s.Y := rfl
@[simp] theorem State.setA_SP (v : Byte) : (s.setA v).SP = s.SP := rfl
@[simp] theorem State.setA_PC (v : Byte) : (s.setA v).PC = s.PC := rfl
@[simp] theorem State.setA_C (v : Byte) : (s.setA v).C = s.C := rfl
@[simp] theorem State.setA_Z (v : Byte) : (s.setA v).Z = s.Z := rfl
@[simp] theorem State.setA_I (v : Byte) : (s.setA v).I = s.I := rfl
@[simp] theorem State.setA_D (v : Byte) : (s.setA v).D = s.D := rfl
@[simp] theorem State.setA_V (v : Byte) : (s.setA v).V = s.V := rfl
@[simp] theorem State.setA_N (v : Byte) : (s.setA v).N = s.N := rfl
@[simp] theorem State.setA_CR (v : Byte) : (s.setA v).CR = s.CR := rfl
@[simp] theorem State.setA_mem (v : Byte) : (s.setA v).mem = s.mem := rfl
@[simp] theorem State.setA_read (v : Byte) (a : Word) : (s.setA v).read a = s.read a := rfl

-- the fields after `setX`
@[simp] theorem State.setX_A (v : Byte) : (s.setX v).A = s.A := rfl
@[simp] theorem State.setX_X (v : Byte) : (s.setX v).X = v := rfl
@[simp] theorem State.setX_Y (v : Byte) : (s.setX v).Y = s.Y := rfl
@[simp] theorem State.setX_SP (v : Byte) : (s.setX v).SP = s.SP := rfl
@[simp] theorem State.setX_PC (v : Byte) : (s.setX v).PC = s.PC := rfl
@[simp] theorem State.setX_C (v : Byte) : (s.setX v).C = s.C := rfl
@[simp] theorem State.setX_Z (v : Byte) : (s.setX v).Z = s.Z := rfl
@[simp] theorem State.setX_I (v : Byte) : (s.setX v).I = s.I := rfl
@[simp] theorem State.setX_D (v : Byte) : (s.setX v).D = s.D := rfl
@[simp] theorem State.setX_V (v : Byte) : (s.setX v).V = s.V := rfl
@[simp] theorem State.setX_N (v : Byte) : (s.setX v).N = s.N := rfl
@[simp] theorem State.setX_CR (v : Byte) : (s.setX v).CR = s.CR := rfl
@[simp] theorem State.setX_mem (v : Byte) : (s.setX v).mem = s.mem := rfl
@[simp] theorem State.setX_read (v : Byte) (a : Word) : (s.setX v).read a = s.read a := rfl

-- the fields after `setY`
@[simp] theorem State.setY_A (v : Byte) : (s.setY v).A = s.A := rfl
@[simp] theorem State.setY_X (v : Byte) : (s.setY v).X = s.X := rfl
@[simp] theorem State.setY_Y (v : Byte) : (s.setY v).Y = v := rfl
@[simp] theorem State.setY_SP (v : Byte) : (s.setY v).SP = s.SP := rfl
@[simp] theorem State.setY_PC (v : Byte) : (s.setY v).PC = s.PC := rfl
@[simp] theorem State.setY_C (v : Byte) : (s.setY v).C = s.C := rfl
@[simp] theorem State.setY_Z (v : Byte) : (s.setY v).Z = s.Z := rfl
@[simp] theorem State.setY_I (v : Byte) : (s.setY v).I = s.I := rfl
@[simp] theorem State.setY_D (v : Byte) : (s.setY v).D = s.D := rfl
@[simp] theorem State.setY_V (v : Byte) : (s.setY v).V = s.V := rfl
@[simp] theorem State.setY_N (v : Byte) : (s.setY v).N = s.N := rfl
@[simp] theorem State.setY_CR (v : Byte) : (s.setY v).CR = s.CR := rfl
@[simp] theorem State.setY_mem (v : Byte) : (s.setY v).mem = s.mem := rfl
@[simp] theorem State.setY_read (v : Byte) (a : Word) : (s.setY v).read a = s.read a := rfl

-- the fields after `setSP`
@[simp] theorem State.setSP_A (v : Byte) : (s.setSP v).A = s.A := rfl
@[simp] theorem State.setSP_X (v : Byte) : (s.setSP v).X = s.X := rfl
@[simp] theorem State.setSP_Y (v : Byte) : (s.setSP v).Y = s.Y := rfl
@[simp] theorem State.setSP_SP (v : Byte) : (s.setSP v).SP = v := rfl
@[simp] theorem State.setSP_PC (v : Byte) : (s.setSP v).PC = s.PC := rfl
@[simp] theorem State.setSP_C (v : Byte) : (s.setSP v).C = s.C := rfl
@[simp] theorem State.setSP_Z (v : Byte) : (s.setSP v).Z = s.Z := rfl
@[simp] theorem State.setSP_I (v : Byte) : (s.setSP v).I = s.I := rfl
@[simp] theorem State.setSP_D (v : Byte) : (s.setSP v).D = s.D := rfl
@[simp] theorem State.setSP_V (v : Byte) : (s.setSP v).V = s.V := rfl
@[simp] theorem State.setSP_N (v : Byte) : (s.setSP v).N = s.N := rfl
@[simp] theorem State.setSP_CR (v : Byte) : (s.setSP v).CR = s.CR := rfl
@[simp] theorem State.setSP_mem (v : Byte) : (s.setSP v).mem = s.mem := rfl
@[simp] theorem State.setSP_read (v : Byte) (a : Word) : (s.setSP v).read a = s.read a := rfl

-- the fields after `setPC`
@[simp] theorem State.setPC_A (v : Word) : (s.setPC v).A = s.A := rfl
@[simp] theorem State.setPC_X (v : Word) : (s.setPC v).X = s.X := rfl
@[simp] theorem State.setPC_Y (v : Word) : (s.setPC v).Y = s.Y := rfl
@[simp] theorem State.setPC_SP (v : Word) : (s.setPC v).SP = s.SP := rfl
@[simp] theorem State.setPC_PC (v : Word) : (s.setPC v).PC = v := rfl
@[simp] theorem State.setPC_C (v : Word) : (s.setPC v).C = s.C := rfl
@[simp] theorem State.setPC_Z (v : Word) : (s.setPC v).Z = s.Z := rfl
@[simp] theorem State.setPC_I (v : Word) : (s.setPC v).I = s.I := rfl
@[simp] theorem State.setPC_D (v : Word) : (s.setPC v).D = s.D := rfl
@[simp] theorem State.setPC_V (v : Word) : (s.setPC v).V = s.V := rfl
@[simp] theorem State.setPC_N (v : Word) : (s.setPC v).N = s.N := rfl
@[simp] theorem State.setPC_CR (v : Word) : (s.setPC v).CR = s.CR := rfl
@[simp] theorem State.setPC_mem (v : Word) : (s.setPC v).mem = s.mem := rfl
@[simp] theorem State.setPC_read (v : Word) (a : Word) : (s.setPC v).read a = s.read a := rfl

-- the fields after `setC`
@[simp] theorem State.setC_A (v : Bool) : (s.setC v).A = s.A := rfl
@[simp] theorem State.setC_X (v : Bool) : (s.setC v).X = s.X := rfl
@[simp] theorem State.setC_Y (v : Bool) : (s.setC v).Y = s.Y := rfl
@[simp] theorem State.setC_SP (v : Bool) : (s.setC v).SP = s.SP := rfl
@[simp] theorem State.setC_PC (v : Bool) : (s.setC v).PC = s.PC := rfl
@[simp] theorem State.setC_C (v : Bool) : (s.setC v).C = v := rfl
@[simp] theorem State.setC_Z (v : Bool) : (s.setC v).Z = s.Z := rfl
@[simp] theorem State.setC_I (v : Bool) : (s.setC v).I = s.I := rfl
@[simp] theorem State.setC_D (v : Bool) : (s.setC v).D = s.D := rfl
@[simp] theorem State.setC_V (v : Bool) : (s.setC v).V = s.V := rfl
@[simp] theorem State.setC_N (v : Bool) : (s.setC v).N = s.N := rfl
@[simp] theorem State.setC_CR (v : Bool) : (s.setC v).CR = s.CR := rfl
@[simp] theorem State.setC_mem (v : Bool) : (s.setC v).mem = s.mem := rfl
@[simp] theorem State.setC_read (v : Bool) (a : Word) : (s.setC v).read a = s.read a := rfl

-- the fields after `setZ`
@[simp] theorem State.setZ_A (v : Bool) : (s.setZ v).A = s.A := rfl
@[simp] theorem State.setZ_X (v : Bool) : (s.setZ v).X = s.X := rfl
@[simp] theorem State.setZ_Y (v : Bool) : (s.setZ v).Y = s.Y := rfl
@[simp] theorem State.setZ_SP (v : Bool) : (s.setZ v).SP = s.SP := rfl
@[simp] theorem State.setZ_PC (v : Bool) : (s.setZ v).PC = s.PC := rfl
@[simp] theorem State.setZ_C (v : Bool) : (s.setZ v).C = s.C := rfl
@[simp] theorem State.setZ_Z (v : Bool) : (s.setZ v).Z = v := rfl
@[simp] theorem State.setZ_I (v : Bool) : (s.setZ v).I = s.I := rfl
@[simp] theorem State.setZ_D (v : Bool) : (s.setZ v).D = s.D := rfl
@[simp] theorem State.setZ_V (v : Bool) : (s.setZ v).V = s.V := rfl
@[simp] theorem State.setZ_N (v : Bool) : (s.setZ v).N = s.N := rfl
@[simp] theorem State.setZ_CR (v : Bool) : (s.setZ v).CR = s.CR := rfl
@[simp] theorem State.setZ_mem (v : Bool) : (s.setZ v).mem = s.mem := rfl
@[simp] theorem State.setZ_read (v : Bool) (a : Word) : (s.setZ v).read a = s.read a := rfl

-- the fields after `setI`
@[simp] theorem State.setI_A (v : Bool) : (s.setI v).A = s.A := rfl
@[simp] theorem State.setI_X (v : Bool) : (s.setI v).X = s.X := rfl
@[simp] theorem State.setI_Y (v : Bool) : (s.setI v).Y = s.Y := rfl
@[simp] theorem State.setI_SP (v : Bool) : (s.setI v).SP = s.SP := rfl
@[simp] theorem State.setI_PC (v : Bool) : (s.setI v).PC = s.PC := rfl
@[simp] theorem State.setI_C (v : Bool) : (s.setI v).C = s.C := rfl
@[simp] theorem State.setI_Z (v : Bool) : (s.setI v).Z = s.Z := rfl
@[simp] theorem State.setI_I (v : Bool) : (s.setI v).I = v := rfl
@[simp] theorem State.setI_D (v : Bool) : (s.setI v).D = s.D := rfl
@[simp] theorem State.setI_V (v : Bool) : (s.setI v).V = s.V := rfl
@[simp] theorem State.setI_N (v : Bool) : (s.setI v).N = s.N := rfl
@[simp] theorem State.setI_CR (v : Bool) : (s.setI v).CR = s.CR := rfl
@[simp] theorem State.setI_mem (v : Bool) : (s.setI v).mem = s.mem := rfl
@[simp] theorem State.setI_read (v : Bool) (a : Word) : (s.setI v).read a = s.read a := rfl

-- the fields after `setD`
@[simp] theorem State.setD_A (v : Bool) : (s.setD v).A = s.A := rfl
@[simp] theorem State.setD_X (v : Bool) : (s.setD v).X = s.X := rfl
@[simp] theorem State.setD_Y (v : Bool) : (s.setD v).Y = s.Y := rfl
@[simp] theorem State.setD_SP (v : Bool) : (s.setD v).SP = s.SP := rfl
@[simp] theorem State.setD_PC (v : Bool) : (s.setD v).PC = s.PC := rfl
@[simp] theorem State.setD_C (v : Bool) : (s.setD v).C = s.C := rfl
@[simp] theorem State.setD_Z (v : Bool) : (s.setD v).Z = s.Z := rfl
@[simp] theorem State.setD_I (v : Bool) : (s.setD v).I = s.I := rfl
@[simp] theorem State.setD_D (v : Bool) : (s.setD v).D = v := rfl
@[simp] theorem State.setD_V (v : Bool) : (s.setD v).V = s.V := rfl
@[simp] theorem State.setD_N (v : Bool) : (s.setD v).N = s.N := rfl
@[simp] theorem State.setD_CR (v : Bool) : (s.setD v).CR = s.CR := rfl
@[simp] theorem State.setD_mem (v : Bool) : (s.setD v).mem = s.mem := rfl
@[simp] theorem State.setD_read (v : Bool) (a : Word) : (s.setD v).read a = s.read a := rfl

-- the fields after `setV`
@[simp] theorem State.setV_A (v : Bool) : (s.setV v).A = s.A := rfl
@[simp] theorem State.setV_X (v : Bool) : (s.setV v).X = s.X := rfl
@[simp] theorem State.setV_Y (v : Bool) : (s.setV v).Y = s.Y := rfl
@[simp] theorem State.setV_SP (v : Bool) : (s.setV v).SP = s.SP := rfl
@[simp] theorem State.setV_PC (v : Bool) : (s.setV v).PC = s.PC := rfl
@[simp] theorem State.setV_C (v : Bool) : (s.setV v).C = s.C := rfl
@[simp] theorem State.setV_Z (v : Bool) : (s.setV v).Z = s.Z := rfl
@[simp] theorem State.setV_I (v : Bool) : (s.setV v).I = s.I := rfl
@[simp] theorem State.setV_D (v : Bool) : (s.setV v).D = s.D := rfl
@[simp] theorem State.setV_V (v : Bool) : (s.setV v).V = v := rfl
@[simp] theorem State.setV_N (v : Bool) : (s.setV v).N = s.N := rfl
@[simp] theorem State.setV_CR (v : Bool) : (s.setV v).CR = s.CR := rfl
@[simp] theorem State.setV_mem (v : Bool) : (s.setV v).mem = s.mem := rfl
@[simp] theorem State.setV_read (v : Bool) (a : Word) : (s.setV v).read a = s.read a := rfl

-- the fields after `setN`
@[simp] theorem State.setN_A (v : Bool) : (s.setN v).A = s.A := rfl
@[simp] theorem State.setN_X (v : Bool) : (s.setN v).X = s.X := rfl
@[simp] theorem State.setN_Y (v : Bool) : (s.setN v).Y = s.Y := rfl
@[simp] theorem State.setN_SP (v : Bool) : (s.setN v).SP = s.SP := rfl
@[simp] theorem State.setN_PC (v : Bool) : (s.setN v).PC = s.PC := rfl
@[simp] theorem State.setN_C (v : Bool) : (s.setN v).C = s.C := rfl
@[simp] theorem State.setN_Z (v : Bool) : (s.setN v).Z = s.Z := rfl
@[simp] theorem State.setN_I (v : Bool) : (s.setN v).I = s.I := rfl
@[simp] theorem State.setN_D (v : Bool) : (s.setN v).D = s.D := rfl
@[simp] theorem State.setN_V (v : Bool) : (s.setN v).V = s.V := rfl
@[simp] theorem State.setN_N (v : Bool) : (s.setN v).N = v := rfl
@[simp] theorem State.setN_CR (v : Bool) : (s.setN v).CR = s.CR := rfl
@[simp] theorem State.setN_mem (v : Bool) : (s.setN v).mem = s.mem := rfl
@[simp] theorem State.setN_read (v : Bool) (a : Word) : (s.setN v).read a = s.read a := rfl

-- the fields after `setCR`
@[simp] theorem State.setCR_A (v : Nat) : (s.setCR v).A = s.A := rfl
@[simp] theorem State.setCR_X (v : Nat) : (s.setCR v).X = s.X := rfl
@[simp] theorem State.setCR_Y (v : Nat) : (s.setCR v).Y = s.Y := rfl
@[simp] theorem State.setCR_SP (v : Nat) : (s.setCR v).SP = s.SP := rfl
@[simp] theorem State.setCR_PC (v : Nat) : (s.setCR v).PC = s.PC := rfl
@[simp] theorem State.setCR_C (v : Nat) : (s.setCR v).C = s.C := rfl
@[simp] theorem State.setCR_Z (v : Nat) : (s.setCR v).Z = s.Z := rfl
@[simp] theorem State.setCR_I (v : Nat) : (s.setCR v).I = s.I := rfl
@[simp] theorem State.setCR_D (v : Nat) : (s.setCR v).D = s.D := rfl
@[simp] theorem State.setCR_V (v : Nat) : (s.setCR v).V = s.V := rfl
@[simp] theorem State.setCR_N (v : Nat) : (s.setCR v).N = s.N := rfl
@[simp] theorem State.setCR_CR (v : Nat) : (s.setCR v).CR = v := rfl
@[simp] theorem State.setCR_mem (v : Nat) : (s.setCR v).mem = s.mem := rfl
@[simp] theorem State.setCR_read (v : Nat) (a : Word) : (s.setCR v).read a = s.read a := rfl

end Setters

section Composite
variable (s : State)

-- the fields after `State.write`
@[simp] theorem State.write_A (a : Word) (v : Byte) : (s.write a v).A = s.A := rfl
@[simp] theorem State.write_X (a : Word) (v : Byte) : (s.write a v).X = s.X := rfl
@[simp] theorem State.write_Y (a : Word) (v : Byte) : (s.write a v).Y = s.Y := rfl
@[simp] theorem State.write_SP (a : Word) (v : Byte) : (s.write a v).SP = s.SP := rfl
@[simp] theorem State.write_PC (a : Word) (v : Byte) : (s.write a v).PC = s.PC := rfl
@[simp] theorem State.write_C (a : Word) (v : Byte) : (s.write a v).C = s.C := rfl
@[simp] theorem State.write_Z (a : Word) (v : Byte) : (s.write a v).Z = s.Z := rfl
@[simp] theorem State.write_I (a : Word) (v : Byte) : (s.write a v).I = s.I := rfl
@[simp] theorem State.write_D (a : Word) (v : Byte) : (s.write a v).D = s.D := rfl
@[simp] theorem State.write_V (a : Word) (v : Byte) : (s.write a v).V = s.V := rfl
@[simp] theorem State.write_N (a : Word) (v : Byte) : (s.write a v).N = s.N := rfl
@[simp] theorem State.write_CR (a : Word) (v : Byte) : (s.write a v).CR = s.CR := rfl
@[simp] theorem State.write_mem (a : Word) (v : Byte) : (s.write a v).mem = s.mem.write a.toNat v := rfl

-- the fields after `State.advancePC`
@[simp] theorem State.advancePC_A (k : Nat) : (s.advancePC k).A = s.A := rfl
@[simp] theorem State.advancePC_X (k : Nat) : (s.advancePC k).X = s.X := rfl
@[simp] theorem State.advancePC_Y (k : Nat) : (s.advancePC k).Y = s.Y := rfl
@[simp] theorem State.advancePC_SP (k : Nat) : (s.advancePC k).SP = s.SP := rfl
@[simp] theorem State.advancePC_PC (k : Nat) : (s.advancePC k).PC = s.PC + BitVec.ofNat 16 k := rfl
@[simp] theorem State.advancePC_C (k : Nat) : (s.advancePC k).C = s.C := rfl
@[simp] theorem State.advancePC_Z (k : Nat) : (s.advancePC k).Z = s.Z := rfl
@[simp] theorem State.advancePC_I (k : Nat) : (s.advancePC k).I = s.I := rfl
@[simp] theorem State.advancePC_D (k : Nat) : (s.advancePC k).D = s.D := rfl
@[simp] theorem State.advancePC_V (k : Nat) : (s.advancePC k).V = s.V := rfl
@[simp] theorem State.advancePC_N (k : Nat) : (s.advancePC k).N = s.N := rfl
@[simp] theorem State.advancePC_CR (k : Nat) : (s.advancePC k).CR = s.CR := rfl
@[simp] theorem State.advancePC_mem (k : Nat) : (s.advancePC k).mem = s.mem := rfl
@[simp] theorem State.advancePC_read (k : Nat) (b : Word) : (s.advancePC k).read b = s.read b := rfl

-- the fields after `State.push`
@[simp] theorem State.push_A (v : Byte) : (s.push v).A = s.A := rfl
@[simp] theorem State.push_X (v : Byte) : (s.push v).X = s.X := rfl
@[simp] theorem State.push_Y (v : Byte) : (s.push v).Y = s.Y := rfl
@[simp] theorem State.push_SP (v : Byte) : (s.push v).SP = s.SP - 1 := rfl
@[simp] theorem State.push_PC (v : Byte) : (s.push v).PC = s.PC := rfl
@[simp] theorem State.push_C (v : Byte) : (s.push v).C = s.C := rfl
@[simp] theorem State.push_Z (v : Byte) : (s.push v).Z = s.Z := rfl
@[simp] theorem State.push_I (v : Byte) : (s.push v).I = s.I := rfl
@[simp] theorem State.push_D (v : Byte) : (s.push v).D = s.D := rfl
@[simp] theorem State.push_V (v : Byte) : (s.push v).V = s.V := rfl
@[simp] theorem State.push_N (v : Byte) : (s.push v).N = s.N := rfl
@[simp] theorem State.push_CR (v : Byte) : (s.push v).CR = s.CR := rfl
@[simp] theorem State.push_mem (v : Byte) : (s.push v).mem = s.mem.write (stackAddress s.SP).toNat v := rfl

-- the fields after `State.pull`
@[simp] theorem State.pull_A : (s.pull).A = s.A := rfl
@[simp] theorem State.pull_X : (s.pull).X = s.X := rfl
@[simp] theorem State.pull_Y : (s.pull).Y = s.Y := rfl
@[simp] theorem State.pull_SP : (s.pull).SP = s.SP + 1 := rfl
@[simp] theorem State.pull_PC : (s.pull).PC = s.PC := rfl
@[simp] theorem State.pull_C : (s.pull).C = s.C := rfl
@[simp] theorem State.pull_Z : (s.pull).Z = s.Z := rfl
@[simp] theorem State.pull_I : (s.pull).I = s.I := rfl
@[simp] theorem State.pull_D : (s.pull).D = s.D := rfl
@[simp] theorem State.pull_V : (s.pull).V = s.V := rfl
@[simp] theorem State.pull_N : (s.pull).N = s.N := rfl
@[simp] theorem State.pull_CR : (s.pull).CR = s.CR := rfl
@[simp] theorem State.pull_mem : (s.pull).mem = s.mem := rfl
@[simp] theorem State.pull_read (b : Word) : (s.pull).read b = s.read b := rfl

-- the fields after `setZN`
@[simp] theorem setZN_A (v : Byte) : (setZN v s).A = s.A := rfl
@[simp] theorem setZN_X (v : Byte) : (setZN v s).X = s.X := rfl
@[simp] theorem setZN_Y (v : Byte) : (setZN v s).Y = s.Y := rfl
@[simp] theorem setZN_SP (v : Byte) : (setZN v s).SP = s.SP := rfl
@[simp] theorem setZN_PC (v : Byte) : (setZN v s).PC = s.PC := rfl
@[simp] theorem setZN_C (v : Byte) : (setZN v s).C = s.C := rfl
@[simp] theorem setZN_Z (v : Byte) : (setZN v s).Z = (v == 0x00#8) := rfl
@[simp] theorem setZN_I (v : Byte) : (setZN v s).I = s.I := rfl
@[simp] theorem setZN_D (v : Byte) : (setZN v s).D = s.D := rfl
@[simp] theorem setZN_V (v : Byte) : (setZN v s).V = s.V := rfl
@[simp] theorem setZN_N (v : Byte) : (setZN v s).N = bit v 7 := rfl
@[simp] theorem setZN_CR (v : Byte) : (setZN v s).CR = s.CR := rfl
@[simp] theorem setZN_mem (v : Byte) : (setZN v s).mem = s.mem := rfl
@[simp] theorem setZN_read (v : Byte) (b : Word) : (setZN v s).read b = s.read b := rfl

-- the fields after `storeSum`
@[simp] theorem storeSum_A (r : Sum) : (storeSum r s).A = r.result := rfl
@[simp] theorem storeSum_X (r : Sum) : (storeSum r s).X = s.X := rfl
@[simp] theorem storeSum_Y (r : Sum) : (storeSum r s).Y = s.Y := rfl
@[simp] theorem storeSum_SP (r : Sum) : (storeSum r s).SP = s.SP := rfl
@[simp] theorem storeSum_PC (r : Sum) : (storeSum r s).PC = s.PC := rfl
@[simp] theorem storeSum_C (r : Sum) : (storeSum r s).C = r.carry := rfl
@[simp] theorem storeSum_Z (r : Sum) : (storeSum r s).Z = (r.result == 0x00#8) := rfl
@[simp] theorem storeSum_I (r : Sum) : (storeSum r s).I = s.I := rfl
@[simp] theorem storeSum_D (r : Sum) : (storeSum r s).D = s.D := rfl
@[simp] theorem storeSum_V (r : Sum) : (storeSum r s).V = r.overflow := rfl
@[simp] theorem storeSum_N (r : Sum) : (storeSum r s).N = bit r.result 7 := rfl
@[simp] theorem storeSum_CR (r : Sum) : (storeSum r s).CR = s.CR := rfl
@[simp] theorem storeSum_mem (r : Sum) : (storeSum r s).mem = s.mem := rfl
@[simp] theorem storeSum_read (r : Sum) (b : Word) : (storeSum r s).read b = s.read b := rfl

-- the fields after `compareFlags`
@[simp] theorem compareFlags_A (rg m : Byte) : (compareFlags rg m s).A = s.A := rfl
@[simp] theorem compareFlags_X (rg m : Byte) : (compareFlags rg m s).X = s.X := rfl
@[simp] theorem compareFlags_Y (rg m : Byte) : (compareFlags rg m s).Y = s.Y := rfl
@[simp] theorem compareFlags_SP (rg m : Byte) : (compareFlags rg m s).SP = s.SP := rfl
@[simp] theorem compareFlags_PC (rg m : Byte) : (compareFlags rg m s).PC = s.PC := rfl
@[simp] theorem compareFlags_C (rg m : Byte) : (compareFlags rg m s).C = decide (m.toNat ≤ rg.toNat) := rfl
@[simp] theorem compareFlags_Z (rg m : Byte) : (compareFlags rg m s).Z = (rg == m) := rfl
@[simp] theorem compareFlags_I (rg m : Byte) : (compareFlags rg m s).I = s.I := rfl
@[simp] theorem compareFlags_D (rg m : Byte) : (compareFlags rg m s).D = s.D := rfl
@[simp] theorem compareFlags_V (rg m : Byte) : (compareFlags rg m s).V = s.V := rfl
@[simp] theorem compareFlags_N (rg m : Byte) : (compareFlags rg m s).N = bit (rg - m) 7 := rfl
@[simp] theorem compareFlags_CR (rg m : Byte) : (compareFlags rg m s).CR = s.CR := rfl
@[simp] theorem compareFlags_mem (rg m : Byte) : (compareFlags rg m s).mem = s.mem := rfl
@[simp] theorem compareFlags_read (rg m : Byte) (b : Word) : (compareFlags rg m s).read b = s.read b := rfl

-- the fields after `bitFlags`
@[simp] theorem bitFlags_A (m : Byte) : (bitFlags m s).A = s.A := rfl
@[simp] theorem bitFlags_X (m : Byte) : (bitFlags m s).X = s.X := rfl
@[simp] theorem bitFlags_Y (m : Byte) : (bitFlags m s).Y = s.Y := rfl
@[simp] theorem bitFlags_SP (m : Byte) : (bitFlags m s).SP = s.SP := rfl
@[simp] theorem bitFlags_PC (m : Byte) : (bitFlags m s).PC = s.PC := rfl
@[simp] theorem bitFlags_C (m : Byte) : (bitFlags m s).C = s.C := rfl
@[simp] theorem bitFlags_Z (m : Byte) : (bitFlags m s).Z = ((s.A &&& m) == 0x00#8) := rfl
@[simp] theorem bitFlags_I (m : Byte) : (bitFlags m s).I = s.I := rfl
@[simp] theorem bitFlags_D (m : Byte) : (bitFlags m s).D = s.D := rfl
@[simp] theorem bitFlags_V (m : Byte) : (bitFlags m s).V = bit m 6 := rfl
@[simp] theorem bitFlags_N (m : Byte) : (bitFlags m s).N = bit m 7 := rfl
@[simp] theorem bitFlags_CR (m : Byte) : (bitFlags m s).CR = s.CR := rfl
@[simp] theorem bitFlags_mem (m : Byte) : (bitFlags m s).mem = s.mem := rfl
@[simp] theorem bitFlags_read (m : Byte) (b : Word) : (bitFlags m s).read b = s.read b := rfl

end Composite

/-- Two states with equal fields are equal. -/
theorem State.ext_fields {s t : State} (hA : s.A = t.A) (hX : s.X = t.X) (hY : s.Y = t.Y)
    (hSP : s.SP = t.SP) (hPC : s.PC = t.PC) (hC : s.C = t.C) (hZ : s.Z = t.Z) (hI : s.I = t.I)
    (hD : s.D = t.D) (hV : s.V = t.V) (hN : s.N = t.N) (hCR : s.CR = t.CR) (hmem : s.mem = t.mem) :
    s = t := by
  cases s; cases t; simp_all

end Sys2Proof.Machine
end

