-- ==== Sys2Proof/Laws/Memory.lean ====
section
/-! SUPPORT. The memory's laws: a read after a write, and that every memory operation keeps the canonical form. -/

namespace Sys2Proof.Machine

theorem Memory.read_erase (m : Memory) (a b : Nat) :
    (m.erase a).read b = if b = a then Config.unlistedByte else m.read b := by
  induction m with
  | nil => simp [Memory.erase, Memory.read]
  | cons p m ih =>
    obtain ⟨k, v⟩ := p
    unfold Memory.erase at ih ⊢
    by_cases hk : k = a
    · subst hk
      by_cases hb : b = k
      · simp_all
      · simp [ih, Memory.read, hb, Ne.symm hb]
    · by_cases hb : k = b
      · subst hb; simp [Memory.read, hk]
      · simp [Memory.read, hk, hb, ih]

theorem Memory.read_insert (m : Memory) (a b : Nat) (v : Byte) (h : ∀ p ∈ m, p.1 ≠ a) :
    (Memory.insert a v m).read b = if b = a then v else m.read b := by
  induction m with
  | nil =>
    by_cases hb : b = a
    · simp [Memory.insert, Memory.read, hb]
    · simp [Memory.insert, Memory.read, hb, Ne.symm hb]
  | cons p m ih =>
    obtain ⟨k, w⟩ := p
    have hk : k ≠ a := h (k, w) (by simp)
    have ih := ih fun q hq => h q (by simp [hq])
    by_cases hlt : a < k
    · by_cases hb : b = a
      · simp [Memory.insert, Memory.read, hlt, hb]
      · simp [Memory.insert, Memory.read, hlt, hb, Ne.symm hb]
    · by_cases hb : k = b
      · subst hb; simp [Memory.insert, Memory.read, hlt, hk]
      · simp [Memory.insert, Memory.read, hlt, hb, ih]

theorem Memory.mem_erase {m : Memory} {a : Nat} {p : Host.Cell} :
    p ∈ m.erase a ↔ p ∈ m ∧ p.1 ≠ a := by
  simp [Memory.erase]

/-- A read after a write: the byte written at its address, what was there anywhere else. For every list of cells,
canonical or not. -/
theorem Memory.read_write (m : Memory) (a b : Nat) (v : Byte) :
    (m.write a v).read b = if b = a then v else m.read b := by
  unfold Memory.write
  split
  · next h => subst h; exact Memory.read_erase m a b
  · rw [Memory.read_insert _ _ _ _ fun p hp => (Memory.mem_erase.mp hp).2, Memory.read_erase]
    by_cases hb : b = a <;> simp [hb]

theorem Memory.mem_insert {m : Memory} {a : Nat} {v : Byte} {p : Host.Cell} :
    p ∈ Memory.insert a v m ↔ p = (a, v) ∨ p ∈ m := by
  induction m with
  | nil => simp [Memory.insert]
  | cons q m ih =>
    obtain ⟨k, w⟩ := q
    by_cases h : a < k
    · simp [Memory.insert, h]
    · simp only [Memory.insert, h, if_false, List.mem_cons, ih]; tauto

/-- Erasing keeps the canonical form. -/
theorem Memory.erase_wf {m : Memory} (h : m.wf) (a : Nat) : (m.erase a).wf :=
  ⟨h.1.filter _, fun p hp => h.2 p (Memory.mem_erase.mp hp).1⟩

/-- Inserting a listable byte at a free address of the space keeps the canonical form. -/
theorem Memory.insert_wf {m : Memory} (h : m.wf) {a : Nat} {v : Byte} (ha : a < 65536)
    (hv : v ≠ Config.unlistedByte) (hfree : ∀ p ∈ m, p.1 ≠ a) : (Memory.insert a v m).wf := by
  refine ⟨?_, fun p hp => ?_⟩
  · induction m with
    | nil => simp [Memory.insert]
    | cons q m ih =>
      obtain ⟨k, w⟩ := q
      have hq := List.pairwise_cons.mp h.1
      have hk : k ≠ a := hfree (k, w) (by simp)
      by_cases hlt : a < k
      · simp only [Memory.insert, hlt, if_true]
        refine List.pairwise_cons.mpr ⟨fun p hp => ?_, h.1⟩
        rcases List.mem_cons.mp hp with rfl | hp
        · exact hlt
        · exact hlt.trans (hq.1 p hp)
      · simp only [Memory.insert, hlt, if_false]
        refine List.pairwise_cons.mpr ⟨fun p hp => ?_, ?_⟩
        · rcases Memory.mem_insert.mp hp with rfl | hp
          · exact lt_of_le_of_ne (Nat.le_of_not_lt hlt) hk
          · exact hq.1 p hp
        · exact ih ⟨hq.2, fun p hp => h.2 p (by simp [hp])⟩ fun p hp => hfree p (by simp [hp])
  · rcases Memory.mem_insert.mp hp with rfl | hp
    · exact ⟨ha, hv⟩
    · exact h.2 p hp

/-- A write keeps the canonical form. -/
theorem Memory.write_wf {m : Memory} (h : m.wf) {a : Nat} (ha : a < 65536) (v : Byte) :
    (m.write a v).wf := by
  unfold Memory.write
  split
  · exact Memory.erase_wf h a
  · next hv => exact Memory.insert_wf (Memory.erase_wf h a) ha hv fun p hp => (Memory.mem_erase.mp hp).2

theorem State.write_wf {s : State} (h : s.mem.wf) (a : Word) (v : Byte) : (s.write a v).mem.wf :=
  Memory.write_wf h a.isLt v

theorem State.push_wf {s : State} (h : s.mem.wf) (v : Byte) : (s.push v).mem.wf :=
  State.write_wf h _ v

theorem reset_mem_wf : State.reset.mem.wf := by decide

end Sys2Proof.Machine
end

