-- ==== Sys2Proof/Laws/Ops.lean ====
section
/-! SUPPORT. What each shared operation can do, said once: later proofs cite these and unfold none of them. -/

namespace Sys2Proof.Machine

@[simp] theorem andThen_of_next {α β : Type} (a : α) (f : α → Host.Outcome β Fault Refusal) :
    andThen (.next a) f = f a := rfl

@[simp] theorem andThen_of_fault {α β : Type} (r : Fault) (f : α → Host.Outcome β Fault Refusal) :
    andThen (.fault r) f = .fault r := rfl

@[simp] theorem andThen_of_refused {α β : Type} (r : Refusal) (f : α → Host.Outcome β Fault Refusal) :
    andThen (.refused r) f = .refused r := rfl

theorem andThen_next {α β : Type} {o : Host.Outcome α Fault Refusal}
    {f : α → Host.Outcome β Fault Refusal} {b : β} :
    andThen o f = .next b ↔ ∃ a, o = .next a ∧ f a = .next b := by
  cases o <;> simp

/-- A read of memory after a write, at the address written and anywhere else. -/
theorem State.read_write (s : State) (a b : Word) (v : Byte) :
    (s.write a v).read b = if b = a then v else s.read b := by
  simp [State.read, Memory.read_write, BitVec.toNat_inj]

/-- A read of memory after a push. -/
theorem State.push_read (s : State) (v : Byte) (b : Word) :
    (s.push v).read b = if b = stackAddress s.SP then v else s.read b :=
  s.read_write _ b v

/-- An operand has a value unless it is `Implied`. -/
theorem operandRead_next {o : Operand} {s : State} {m : Byte} :
    operandRead o s = .next m ↔
      (o = .acc ∧ m = s.A) ∨ o = .imm m ∨ ∃ a, o = .addr a ∧ m = s.read a := by
  cases o <;> simp [operandRead, eq_comm]

/-- A place is the accumulator or an address. -/
theorem operandWrite_next {o : Operand} {v : Byte} {s t : State} :
    operandWrite o v s = .next t ↔
      (o = .acc ∧ t = s.setA v) ∨ ∃ a, o = .addr a ∧ t = s.write a v := by
  cases o <;> simp [operandWrite, eq_comm]

theorem operandAddress_next {o : Operand} {a : Word} : operandAddress o = .next a ↔ o = .addr a := by
  cases o <;> simp [operandAddress]

/-- The state in which an instruction of mode `arg` resolves its operand: `PC` past its bytes. -/
def pastBytes (arg : ModeArg) (s : State) : State := s.advancePC (1 + arg.mode.operandBytes)

/-- The shared Idle tick: the effect on the resolved operand, then the countdown. -/
theorem runEntry_next {base : Nat} {ro : Bool} {arg : ModeArg} {f : Effect} {s t : State} :
    runEntry base ro arg f s = .next t ↔
      ∃ e, f (resolve arg (pastBytes arg s)).operand (resolve arg (pastBytes arg s)).crossed
          (pastBytes arg s) = .next e ∧
        t = e.state.setCR (cost base ro (resolve arg (pastBytes arg s)).crossed e.extra - 1) := by
  simp only [runEntry, andThen_next, pastBytes]
  constructor
  · rintro ⟨e, he, ht⟩
    cases ht
    exact ⟨e, he, rfl⟩
  · rintro ⟨e, he, rfl⟩
    exact ⟨e, he, rfl⟩

/-- A read-only instruction completes exactly when its operand has a value. -/
theorem readOnly_next {base : Nat} {arg : ModeArg} {f : Byte → State → State} {s t : State} :
    readOnly base arg f s = .next t ↔
      ∃ m, operandRead (resolve arg (pastBytes arg s)).operand (pastBytes arg s) = .next m ∧
        t = (f m (pastBytes arg s)).setCR
          (cost base true (resolve arg (pastBytes arg s)).crossed 0 - 1) := by
  simp only [readOnly, runEntry_next, andThen_next]
  constructor
  · rintro ⟨e, ⟨m, hm, he⟩, rfl⟩
    cases he
    exact ⟨m, hm, rfl⟩
  · rintro ⟨m, hm, rfl⟩
    exact ⟨_, ⟨m, hm, rfl⟩, rfl⟩

/-- A shift reads its operand once and writes the result back to the same place. -/
theorem shiftOp_next {base : Nat} {arg : ModeArg} {f : Byte → Bool → Shifted} {s t : State} :
    shiftOp base arg f s = .next t ↔
      ∃ m u, operandRead (resolve arg (pastBytes arg s)).operand (pastBytes arg s) = .next m ∧
        operandWrite (resolve arg (pastBytes arg s)).operand (f m s.C).result (pastBytes arg s)
          = .next u ∧
        t = (setZN (f m s.C).result (u.setC (f m s.C).carryOut)).setCR (base - 1) := by
  simp only [shiftOp, runEntry_next, andThen_next]
  constructor
  · rintro ⟨e, ⟨m, hm, u, hu, he⟩, rfl⟩
    cases he
    exact ⟨m, u, hm, hu, by simp [cost, b2n, pastBytes]⟩
  · rintro ⟨m, u, hm, hu, rfl⟩
    exact ⟨_, ⟨m, hm, u, hu, rfl⟩, by simp [cost, b2n, pastBytes]⟩

/-- INC and DEC read their operand once and write the result back to the same place. -/
theorem modify_next {base : Nat} {arg : ModeArg} {f : Byte → Byte} {s t : State} :
    modify base arg f s = .next t ↔
      ∃ m u, operandRead (resolve arg (pastBytes arg s)).operand (pastBytes arg s) = .next m ∧
        operandWrite (resolve arg (pastBytes arg s)).operand (f m) (pastBytes arg s) = .next u ∧
        t = (setZN (f m) u).setCR (base - 1) := by
  simp only [modify, runEntry_next, andThen_next]
  constructor
  · rintro ⟨e, ⟨m, hm, u, hu, he⟩, rfl⟩
    cases he
    exact ⟨m, u, hm, hu, by simp [cost, b2n]⟩
  · rintro ⟨m, u, hm, hu, rfl⟩
    exact ⟨_, ⟨m, hm, u, hu, rfl⟩, by simp [cost, b2n]⟩

/-- A store completes exactly when its operand is a place. -/
theorem store_next {base : Nat} {arg : ModeArg} {v : State → Byte} {s t : State} :
    store base arg v s = .next t ↔
      ∃ u, operandWrite (resolve arg (pastBytes arg s)).operand (v (pastBytes arg s))
          (pastBytes arg s) = .next u ∧ t = u.setCR (base - 1) := by
  simp only [store, runEntry_next, andThen_next]
  constructor
  · rintro ⟨e, ⟨u, hu, he⟩, rfl⟩
    cases he
    exact ⟨u, hu, by simp [cost, b2n]⟩
  · rintro ⟨u, hu, rfl⟩
    exact ⟨_, ⟨u, hu, rfl⟩, by simp [cost, b2n]⟩

/-- An instruction without operand always completes. -/
theorem implied_eq (base : Nat) (f : State → State) (s : State) :
    implied base f s = .next ((f (s.advancePC 1)).setCR (base - 1)) := by
  simp [implied, runEntry, cost, b2n, resolve, ModeArg.mode, Mode.operandBytes]

/-- A jump completes exactly when its operand is an address. -/
theorem jump_next {base : Nat} {arg : ModeArg} {f : Word → State → State} {s t : State} :
    jump base arg f s = .next t ↔
      ∃ a, (resolve arg (pastBytes arg s)).operand = .addr a ∧
        t = (f a (pastBytes arg s)).setCR (base - 1) := by
  simp only [jump, runEntry_next, andThen_next, operandAddress_next]
  constructor
  · rintro ⟨e, ⟨a, ha, he⟩, rfl⟩
    cases he
    exact ⟨a, ha, by simp [cost, b2n]⟩
  · rintro ⟨a, ha, rfl⟩
    exact ⟨_, ⟨a, ha, rfl⟩, by simp [cost, b2n]⟩

/-- A branch always completes: at the target, 1 or 2 cycles later, if the condition holds, else at the next
instruction. -/
theorem branch_eq (cond : State → Bool) (d : Byte) (s : State) :
    branch cond d s = .next
      (if cond (s.advancePC 2) then
        ((s.advancePC 2).setPC (s.PC + 2 + sext16 d)).setCR
          (2 + b2n (hi (s.PC + 2 + sext16 d) != hi (s.PC + 2)))
      else (s.advancePC 2).setCR 1) := by
  by_cases h : cond (s.advancePC 2) = true
  · have hcost (x : Nat) : 1 + (1 + x) = 2 + x := by omega
    simp [branch, runEntry, h, hcost, cost, resolve, operandAddress, ModeArg.mode,
      Mode.operandBytes, b2n]
  · simp [branch, runEntry, h, cost, resolve, ModeArg.mode, Mode.operandBytes, b2n]

end Sys2Proof.Machine
end

