-- ==== Sys2Proof/Laws/Engine.lean ====
section
/-! SUPPORT. What a tick, a run of Running ticks and a host action can do, said once. -/

namespace Sys2Proof.Machine

theorem idleTick_of_decoded {p : Profile} {s : State} {i : Instr} (h : decodedAt p s = some i) :
    idleTick p s = exec i s := by
  simp [idleTick, h]

theorem idleTick_of_undefined {p : Profile} {s : State} (h : decodedAt p s = none) :
    idleTick p s = .fault (.undefinedOpcode (s.read s.PC) s.PC) := by
  simp [idleTick, h, raiseUndefinedOpcode]

theorem tick_idle {p : Profile} {s : State} (h : s.CR = 0) : tick p s = idleTick p s := by
  simp [tick, h]

theorem tick_running {p : Profile} {s : State} (h : s.CR ≠ 0) : tick p s = .next (runningTick s) := by
  simp [tick, h]

/-- A tick that answers a next state ran the decoded instruction, or counted down. -/
theorem tick_next {p : Profile} {s t : State} :
    tick p s = .next t ↔
      (s.CR = 0 ∧ ∃ i, decodedAt p s = some i ∧ exec i s = .next t) ∨
        (s.CR ≠ 0 ∧ t = s.setCR (s.CR - 1)) := by
  by_cases h : s.CR = 0
  · rw [tick_idle h]
    cases hd : decodedAt p s with
    | none => simp [idleTick_of_undefined hd, h]
    | some i => simp [idleTick_of_decoded hd, h]
  · simp [tick_running h, h, runningTick, eq_comm]

/-- `n` Running ticks take `n` from the countdown and change nothing else. -/
theorem runningTicks_eq (n : Nat) (s : State) : runningTicks n s = s.setCR (s.CR - n) := by
  induction n generalizing s with
  | zero => rfl
  | succ n ih => simp [runningTicks, ih, runningTick, State.setCR, Nat.sub_sub, Nat.add_comm]

/-- A host action other than a tick always completes; a tick does what `tick_next` says. -/
theorem hostAct_next_of_ne_tick {p : Profile} {init : Init} {act : HostAction} {s : State}
    (h : act ≠ .tick) : ∃ t, hostAct p init act s = .next t := by
  cases act <;> first | exact absurd rfl h | exact ⟨_, rfl⟩

@[simp] theorem hostAct_tick (p : Profile) (init : Init) (s : State) :
    hostAct p init .tick s = tick p s := rfl

@[simp] theorem hostAct_reset (p : Profile) (init : Init) (s : State) :
    hostAct p init .reset s = .next (construct init s.mem) := rfl

/-- A run of host actions that answers a state did each action in turn. -/
theorem hostRun_cons_next {p : Profile} {init : Init} {act : HostAction} {acts : List HostAction}
    {s t : State} :
    hostRun p init (act :: acts) s = .next t ↔
      ∃ u, hostAct p init act s = .next u ∧ hostRun p init acts u = .next t := by
  simp [hostRun, andThen_next]

/-- A run of actions followed by others is the one run and then the other, with the first stop of either. -/
theorem hostRun_append (p : Profile) (init : Init) (before rest : List HostAction) (s : State) :
    hostRun p init (before ++ rest) s = andThen (hostRun p init before s) (hostRun p init rest) := by
  induction before generalizing s with
  | nil => rfl
  | cons act before ih =>
    simp only [List.cons_append, hostRun]
    cases hostAct p init act s <;> simp [ih]

end Sys2Proof.Machine
end

