-- ==== Sys2Proof/Laws/PerInstr.lean ====
section
/-! SUPPORT. One statement about every instruction as syntax, with one lemma per constructor: the decode table's entry at
the instruction's opcode byte is the instruction's row. -/

namespace Sys2Proof.Laws.TableRow

/-- At the instruction's opcode byte, the profile's table has an entry exactly if the profile admits the instruction, and
that entry names the instruction's mnemonic and mode (R64, R65). -/
def Statement (i : Instr) : Prop :=
  ∀ p : Profile,
    (Machine.lookup p i.opcode).map (fun e => (e.mnemonic, e.mode)) =
      if i.wellFormed p then some (i.mnemonic, i.mode) else none

theorem adcIzx (b : Byte) : Statement (.adcIzx b) := by intro p; cases p <;> rfl
theorem adcZpp (b : Byte) : Statement (.adcZpp b) := by intro p; cases p <;> rfl
theorem adcImm (v : Byte) : Statement (.adcImm v) := by intro p; cases p <;> rfl
theorem adcAbs (w : Word) : Statement (.adcAbs w) := by intro p; cases p <;> rfl
theorem adcIzy (b : Byte) : Statement (.adcIzy b) := by intro p; cases p <;> rfl
theorem adcZpx (b : Byte) : Statement (.adcZpx b) := by intro p; cases p <;> rfl
theorem adcAby (w : Word) : Statement (.adcAby w) := by intro p; cases p <;> rfl
theorem adcAbx (w : Word) : Statement (.adcAbx w) := by intro p; cases p <;> rfl
theorem sbcIzx (b : Byte) : Statement (.sbcIzx b) := by intro p; cases p <;> rfl
theorem sbcZpp (b : Byte) : Statement (.sbcZpp b) := by intro p; cases p <;> rfl
theorem sbcImm (v : Byte) : Statement (.sbcImm v) := by intro p; cases p <;> rfl
theorem sbcAbs (w : Word) : Statement (.sbcAbs w) := by intro p; cases p <;> rfl
theorem sbcIzy (b : Byte) : Statement (.sbcIzy b) := by intro p; cases p <;> rfl
theorem sbcZpx (b : Byte) : Statement (.sbcZpx b) := by intro p; cases p <;> rfl
theorem sbcAby (w : Word) : Statement (.sbcAby w) := by intro p; cases p <;> rfl
theorem sbcAbx (w : Word) : Statement (.sbcAbx w) := by intro p; cases p <;> rfl
theorem andIzx (b : Byte) : Statement (.andIzx b) := by intro p; cases p <;> rfl
theorem andZpp (b : Byte) : Statement (.andZpp b) := by intro p; cases p <;> rfl
theorem andImm (v : Byte) : Statement (.andImm v) := by intro p; cases p <;> rfl
theorem andAbs (w : Word) : Statement (.andAbs w) := by intro p; cases p <;> rfl
theorem andIzy (b : Byte) : Statement (.andIzy b) := by intro p; cases p <;> rfl
theorem andZpx (b : Byte) : Statement (.andZpx b) := by intro p; cases p <;> rfl
theorem andAby (w : Word) : Statement (.andAby w) := by intro p; cases p <;> rfl
theorem andAbx (w : Word) : Statement (.andAbx w) := by intro p; cases p <;> rfl
theorem oraIzx (b : Byte) : Statement (.oraIzx b) := by intro p; cases p <;> rfl
theorem oraZpp (b : Byte) : Statement (.oraZpp b) := by intro p; cases p <;> rfl
theorem oraImm (v : Byte) : Statement (.oraImm v) := by intro p; cases p <;> rfl
theorem oraAbs (w : Word) : Statement (.oraAbs w) := by intro p; cases p <;> rfl
theorem oraIzy (b : Byte) : Statement (.oraIzy b) := by intro p; cases p <;> rfl
theorem oraZpx (b : Byte) : Statement (.oraZpx b) := by intro p; cases p <;> rfl
theorem oraAby (w : Word) : Statement (.oraAby w) := by intro p; cases p <;> rfl
theorem oraAbx (w : Word) : Statement (.oraAbx w) := by intro p; cases p <;> rfl
theorem cpaIzx (b : Byte) : Statement (.cpaIzx b) := by intro p; cases p <;> rfl
theorem cpaZpp (b : Byte) : Statement (.cpaZpp b) := by intro p; cases p <;> rfl
theorem cpaImm (v : Byte) : Statement (.cpaImm v) := by intro p; cases p <;> rfl
theorem cpaAbs (w : Word) : Statement (.cpaAbs w) := by intro p; cases p <;> rfl
theorem cpaIzy (b : Byte) : Statement (.cpaIzy b) := by intro p; cases p <;> rfl
theorem cpaZpx (b : Byte) : Statement (.cpaZpx b) := by intro p; cases p <;> rfl
theorem cpaAby (w : Word) : Statement (.cpaAby w) := by intro p; cases p <;> rfl
theorem cpaAbx (w : Word) : Statement (.cpaAbx w) := by intro p; cases p <;> rfl
theorem cpxImm (v : Byte) : Statement (.cpxImm v) := by intro p; cases p <;> rfl
theorem cpxZpp (b : Byte) : Statement (.cpxZpp b) := by intro p; cases p <;> rfl
theorem cpxAbs (w : Word) : Statement (.cpxAbs w) := by intro p; cases p <;> rfl
theorem cpyImm (v : Byte) : Statement (.cpyImm v) := by intro p; cases p <;> rfl
theorem cpyZpp (b : Byte) : Statement (.cpyZpp b) := by intro p; cases p <;> rfl
theorem cpyAbs (w : Word) : Statement (.cpyAbs w) := by intro p; cases p <;> rfl
theorem aslZpp (b : Byte) : Statement (.aslZpp b) := by intro p; cases p <;> rfl
theorem aslAcc : Statement .aslAcc := by intro p; cases p <;> rfl
theorem aslAbs (w : Word) : Statement (.aslAbs w) := by intro p; cases p <;> rfl
theorem aslZpx (b : Byte) : Statement (.aslZpx b) := by intro p; cases p <;> rfl
theorem aslAbx (w : Word) : Statement (.aslAbx w) := by intro p; cases p <;> rfl
theorem lsrZpp (b : Byte) : Statement (.lsrZpp b) := by intro p; cases p <;> rfl
theorem lsrAcc : Statement .lsrAcc := by intro p; cases p <;> rfl
theorem lsrAbs (w : Word) : Statement (.lsrAbs w) := by intro p; cases p <;> rfl
theorem lsrZpx (b : Byte) : Statement (.lsrZpx b) := by intro p; cases p <;> rfl
theorem lsrAbx (w : Word) : Statement (.lsrAbx w) := by intro p; cases p <;> rfl
theorem rolZpp (b : Byte) : Statement (.rolZpp b) := by intro p; cases p <;> rfl
theorem rolAcc : Statement .rolAcc := by intro p; cases p <;> rfl
theorem rolAbs (w : Word) : Statement (.rolAbs w) := by intro p; cases p <;> rfl
theorem rolZpx (b : Byte) : Statement (.rolZpx b) := by intro p; cases p <;> rfl
theorem rolAbx (w : Word) : Statement (.rolAbx w) := by intro p; cases p <;> rfl
theorem rorZpp (b : Byte) : Statement (.rorZpp b) := by intro p; cases p <;> rfl
theorem rorAcc : Statement .rorAcc := by intro p; cases p <;> rfl
theorem rorAbs (w : Word) : Statement (.rorAbs w) := by intro p; cases p <;> rfl
theorem rorZpx (b : Byte) : Statement (.rorZpx b) := by intro p; cases p <;> rfl
theorem rorAbx (w : Word) : Statement (.rorAbx w) := by intro p; cases p <;> rfl
theorem ldaIzx (b : Byte) : Statement (.ldaIzx b) := by intro p; cases p <;> rfl
theorem ldaZpp (b : Byte) : Statement (.ldaZpp b) := by intro p; cases p <;> rfl
theorem ldaImm (v : Byte) : Statement (.ldaImm v) := by intro p; cases p <;> rfl
theorem ldaAbs (w : Word) : Statement (.ldaAbs w) := by intro p; cases p <;> rfl
theorem ldaIzy (b : Byte) : Statement (.ldaIzy b) := by intro p; cases p <;> rfl
theorem ldaZpx (b : Byte) : Statement (.ldaZpx b) := by intro p; cases p <;> rfl
theorem ldaAby (w : Word) : Statement (.ldaAby w) := by intro p; cases p <;> rfl
theorem ldaAbx (w : Word) : Statement (.ldaAbx w) := by intro p; cases p <;> rfl
theorem ldxImm (v : Byte) : Statement (.ldxImm v) := by intro p; cases p <;> rfl
theorem ldxZpp (b : Byte) : Statement (.ldxZpp b) := by intro p; cases p <;> rfl
theorem ldxAbs (w : Word) : Statement (.ldxAbs w) := by intro p; cases p <;> rfl
theorem ldxZpy (b : Byte) : Statement (.ldxZpy b) := by intro p; cases p <;> rfl
theorem ldxAby (w : Word) : Statement (.ldxAby w) := by intro p; cases p <;> rfl
theorem ldyImm (v : Byte) : Statement (.ldyImm v) := by intro p; cases p <;> rfl
theorem ldyZpp (b : Byte) : Statement (.ldyZpp b) := by intro p; cases p <;> rfl
theorem ldyAbs (w : Word) : Statement (.ldyAbs w) := by intro p; cases p <;> rfl
theorem ldyZpx (b : Byte) : Statement (.ldyZpx b) := by intro p; cases p <;> rfl
theorem ldyAbx (w : Word) : Statement (.ldyAbx w) := by intro p; cases p <;> rfl
theorem staIzx (b : Byte) : Statement (.staIzx b) := by intro p; cases p <;> rfl
theorem staZpp (b : Byte) : Statement (.staZpp b) := by intro p; cases p <;> rfl
theorem staAbs (w : Word) : Statement (.staAbs w) := by intro p; cases p <;> rfl
theorem staIzy (b : Byte) : Statement (.staIzy b) := by intro p; cases p <;> rfl
theorem staZpx (b : Byte) : Statement (.staZpx b) := by intro p; cases p <;> rfl
theorem staAby (w : Word) : Statement (.staAby w) := by intro p; cases p <;> rfl
theorem staAbx (w : Word) : Statement (.staAbx w) := by intro p; cases p <;> rfl
theorem stxZpp (b : Byte) : Statement (.stxZpp b) := by intro p; cases p <;> rfl
theorem stxAbs (w : Word) : Statement (.stxAbs w) := by intro p; cases p <;> rfl
theorem stxZpy (b : Byte) : Statement (.stxZpy b) := by intro p; cases p <;> rfl
theorem styZpp (b : Byte) : Statement (.styZpp b) := by intro p; cases p <;> rfl
theorem styAbs (w : Word) : Statement (.styAbs w) := by intro p; cases p <;> rfl
theorem styZpx (b : Byte) : Statement (.styZpx b) := by intro p; cases p <;> rfl
theorem tax : Statement .tax := by intro p; cases p <;> rfl
theorem tay : Statement .tay := by intro p; cases p <;> rfl
theorem txa : Statement .txa := by intro p; cases p <;> rfl
theorem tya : Statement .tya := by intro p; cases p <;> rfl
theorem tsx : Statement .tsx := by intro p; cases p <;> rfl
theorem txs : Statement .txs := by intro p; cases p <;> rfl
theorem incZpp (b : Byte) : Statement (.incZpp b) := by intro p; cases p <;> rfl
theorem incAbs (w : Word) : Statement (.incAbs w) := by intro p; cases p <;> rfl
theorem incZpx (b : Byte) : Statement (.incZpx b) := by intro p; cases p <;> rfl
theorem incAbx (w : Word) : Statement (.incAbx w) := by intro p; cases p <;> rfl
theorem decZpp (b : Byte) : Statement (.decZpp b) := by intro p; cases p <;> rfl
theorem decAbs (w : Word) : Statement (.decAbs w) := by intro p; cases p <;> rfl
theorem decZpx (b : Byte) : Statement (.decZpx b) := by intro p; cases p <;> rfl
theorem decAbx (w : Word) : Statement (.decAbx w) := by intro p; cases p <;> rfl
theorem inx : Statement .inx := by intro p; cases p <;> rfl
theorem iny : Statement .iny := by intro p; cases p <;> rfl
theorem dex : Statement .dex := by intro p; cases p <;> rfl
theorem dey : Statement .dey := by intro p; cases p <;> rfl
theorem eorIzx (b : Byte) : Statement (.eorIzx b) := by intro p; cases p <;> rfl
theorem eorZpp (b : Byte) : Statement (.eorZpp b) := by intro p; cases p <;> rfl
theorem eorImm (v : Byte) : Statement (.eorImm v) := by intro p; cases p <;> rfl
theorem eorAbs (w : Word) : Statement (.eorAbs w) := by intro p; cases p <;> rfl
theorem eorIzy (b : Byte) : Statement (.eorIzy b) := by intro p; cases p <;> rfl
theorem eorZpx (b : Byte) : Statement (.eorZpx b) := by intro p; cases p <;> rfl
theorem eorAby (w : Word) : Statement (.eorAby w) := by intro p; cases p <;> rfl
theorem eorAbx (w : Word) : Statement (.eorAbx w) := by intro p; cases p <;> rfl
theorem bitZpp (b : Byte) : Statement (.bitZpp b) := by intro p; cases p <;> rfl
theorem bitAbs (w : Word) : Statement (.bitAbs w) := by intro p; cases p <;> rfl
theorem clc : Statement .clc := by intro p; cases p <;> rfl
theorem sec : Statement .sec := by intro p; cases p <;> rfl
theorem cli : Statement .cli := by intro p; cases p <;> rfl
theorem sei : Statement .sei := by intro p; cases p <;> rfl
theorem cld : Statement .cld := by intro p; cases p <;> rfl
theorem sed : Statement .sed := by intro p; cases p <;> rfl
theorem clv : Statement .clv := by intro p; cases p <;> rfl
theorem nop : Statement .nop := by intro p; cases p <;> rfl
theorem bpl (d : Byte) : Statement (.bpl d) := by intro p; cases p <;> rfl
theorem bmi (d : Byte) : Statement (.bmi d) := by intro p; cases p <;> rfl
theorem bvc (d : Byte) : Statement (.bvc d) := by intro p; cases p <;> rfl
theorem bvs (d : Byte) : Statement (.bvs d) := by intro p; cases p <;> rfl
theorem bcc (d : Byte) : Statement (.bcc d) := by intro p; cases p <;> rfl
theorem bcs (d : Byte) : Statement (.bcs d) := by intro p; cases p <;> rfl
theorem bne (d : Byte) : Statement (.bne d) := by intro p; cases p <;> rfl
theorem beq (d : Byte) : Statement (.beq d) := by intro p; cases p <;> rfl
theorem jmpAbs (w : Word) : Statement (.jmpAbs w) := by intro p; cases p <;> rfl
theorem jmpInd (w : Word) : Statement (.jmpInd w) := by intro p; cases p <;> rfl
theorem jsr (w : Word) : Statement (.jsr w) := by intro p; cases p <;> rfl
theorem rts : Statement .rts := by intro p; cases p <;> rfl
theorem pha : Statement .pha := by intro p; cases p <;> rfl
theorem pla : Statement .pla := by intro p; cases p <;> rfl

end Sys2Proof.Laws.TableRow
end

