-- ==== Sys2Proof/Tests/Slice0.lean ====
section
/-! SUPPORT. Tests against the spec's own vectors and examples (95_test_vectors.md, and the worked examples of the rules),
each of one tick on a small state; the smoke test of WellFormed; every row's word decoded; and a witness for every
statement with hypotheses. -/

namespace Sys2Proof.Tests

open Sys2Proof Sys2Proof.Machine Sys2Proof.Claim

/-- The reset state with `PC` at `pc`, `bytes` stored there and `mem` stored elsewhere. -/
def seed (pc : Word) (bytes : List Byte) (mem : List (Word × Byte)) : State :=
  let s := mem.foldl (fun s c => s.write c.1 c.2) { State.reset with PC := pc }
  bytes.zipIdx.foldl (fun s b => s.write (pc + BitVec.ofNat 16 b.2) b.1) s

/-- `f` of the next state, if the outcome is one. -/
def after {α : Type} (r : Result) (f : State → α) : Option α :=
  match r with
  | .next t => some (f t)
  | .fault _ | .refused _ => none

/-- The fault, if the outcome is one. -/
def faultOf (r : Result) : Option Fault :=
  match r with
  | .fault f => some f
  | .next _ | .refused _ => none

/-- The flags C, Z, I, D, V, N of a state. -/
def flags (s : State) : List Bool := [s.C, s.Z, s.I, s.D, s.V, s.N]

/-! ## WellFormed -/

/-- R3, R70: NOP is no instruction of profile CORE, and the check refuses it there. -/
theorem test_wellFormed_refuses_ext_in_core : Instr.nop.wellFormed .core = false := by decide

theorem test_wellFormed_admits_ext_in_ext : Instr.nop.wellFormed .ext = true := by decide

theorem test_wellFormed_admits_core : (Instr.adcImm 0x01).wellFormed .core = true := by decide

/-! ## Decoding: one word for every row, written out from R66, R203 and the formats of R61 -/

theorem test_decode_add_subtract :
    decode .ext [0x61, 0x34] = .instr (.adcIzx 0x34) [] ∧
    decode .ext [0x65, 0x34] = .instr (.adcZpp 0x34) [] ∧
    decode .ext [0x69, 0x34] = .instr (.adcImm 0x34) [] ∧
    decode .ext [0x6D, 0x34, 0x12] = .instr (.adcAbs 0x1234) [] ∧
    decode .ext [0x71, 0x34] = .instr (.adcIzy 0x34) [] ∧
    decode .ext [0x75, 0x34] = .instr (.adcZpx 0x34) [] ∧
    decode .ext [0x79, 0x34, 0x12] = .instr (.adcAby 0x1234) [] ∧
    decode .ext [0x7D, 0x34, 0x12] = .instr (.adcAbx 0x1234) [] ∧
    decode .ext [0xE1, 0x34] = .instr (.sbcIzx 0x34) [] ∧
    decode .ext [0xE5, 0x34] = .instr (.sbcZpp 0x34) [] ∧
    decode .ext [0xE9, 0x34] = .instr (.sbcImm 0x34) [] ∧
    decode .ext [0xED, 0x34, 0x12] = .instr (.sbcAbs 0x1234) [] ∧
    decode .ext [0xF1, 0x34] = .instr (.sbcIzy 0x34) [] ∧
    decode .ext [0xF5, 0x34] = .instr (.sbcZpx 0x34) [] ∧
    decode .ext [0xF9, 0x34, 0x12] = .instr (.sbcAby 0x1234) [] ∧
    decode .ext [0xFD, 0x34, 0x12] = .instr (.sbcAbx 0x1234) [] := by
  decide

theorem test_decode_logical :
    decode .ext [0x21, 0x34] = .instr (.andIzx 0x34) [] ∧
    decode .ext [0x25, 0x34] = .instr (.andZpp 0x34) [] ∧
    decode .ext [0x29, 0x34] = .instr (.andImm 0x34) [] ∧
    decode .ext [0x2D, 0x34, 0x12] = .instr (.andAbs 0x1234) [] ∧
    decode .ext [0x31, 0x34] = .instr (.andIzy 0x34) [] ∧
    decode .ext [0x35, 0x34] = .instr (.andZpx 0x34) [] ∧
    decode .ext [0x39, 0x34, 0x12] = .instr (.andAby 0x1234) [] ∧
    decode .ext [0x3D, 0x34, 0x12] = .instr (.andAbx 0x1234) [] ∧
    decode .ext [0x01, 0x34] = .instr (.oraIzx 0x34) [] ∧
    decode .ext [0x05, 0x34] = .instr (.oraZpp 0x34) [] ∧
    decode .ext [0x09, 0x34] = .instr (.oraImm 0x34) [] ∧
    decode .ext [0x0D, 0x34, 0x12] = .instr (.oraAbs 0x1234) [] ∧
    decode .ext [0x11, 0x34] = .instr (.oraIzy 0x34) [] ∧
    decode .ext [0x15, 0x34] = .instr (.oraZpx 0x34) [] ∧
    decode .ext [0x19, 0x34, 0x12] = .instr (.oraAby 0x1234) [] ∧
    decode .ext [0x1D, 0x34, 0x12] = .instr (.oraAbx 0x1234) [] := by
  decide

theorem test_decode_compare :
    decode .ext [0xC1, 0x34] = .instr (.cpaIzx 0x34) [] ∧
    decode .ext [0xC5, 0x34] = .instr (.cpaZpp 0x34) [] ∧
    decode .ext [0xC9, 0x34] = .instr (.cpaImm 0x34) [] ∧
    decode .ext [0xCD, 0x34, 0x12] = .instr (.cpaAbs 0x1234) [] ∧
    decode .ext [0xD1, 0x34] = .instr (.cpaIzy 0x34) [] ∧
    decode .ext [0xD5, 0x34] = .instr (.cpaZpx 0x34) [] ∧
    decode .ext [0xD9, 0x34, 0x12] = .instr (.cpaAby 0x1234) [] ∧
    decode .ext [0xDD, 0x34, 0x12] = .instr (.cpaAbx 0x1234) [] ∧
    decode .ext [0xE0, 0x34] = .instr (.cpxImm 0x34) [] ∧
    decode .ext [0xE4, 0x34] = .instr (.cpxZpp 0x34) [] ∧
    decode .ext [0xEC, 0x34, 0x12] = .instr (.cpxAbs 0x1234) [] ∧
    decode .ext [0xC0, 0x34] = .instr (.cpyImm 0x34) [] ∧
    decode .ext [0xC4, 0x34] = .instr (.cpyZpp 0x34) [] ∧
    decode .ext [0xCC, 0x34, 0x12] = .instr (.cpyAbs 0x1234) [] := by
  decide

theorem test_decode_shift_rotate :
    decode .ext [0x06, 0x34] = .instr (.aslZpp 0x34) [] ∧
    decode .ext [0x0A] = .instr .aslAcc [] ∧
    decode .ext [0x0E, 0x34, 0x12] = .instr (.aslAbs 0x1234) [] ∧
    decode .ext [0x16, 0x34] = .instr (.aslZpx 0x34) [] ∧
    decode .ext [0x1E, 0x34, 0x12] = .instr (.aslAbx 0x1234) [] ∧
    decode .ext [0x46, 0x34] = .instr (.lsrZpp 0x34) [] ∧
    decode .ext [0x4A] = .instr .lsrAcc [] ∧
    decode .ext [0x4E, 0x34, 0x12] = .instr (.lsrAbs 0x1234) [] ∧
    decode .ext [0x56, 0x34] = .instr (.lsrZpx 0x34) [] ∧
    decode .ext [0x5E, 0x34, 0x12] = .instr (.lsrAbx 0x1234) [] ∧
    decode .ext [0x26, 0x34] = .instr (.rolZpp 0x34) [] ∧
    decode .ext [0x2A] = .instr .rolAcc [] ∧
    decode .ext [0x2E, 0x34, 0x12] = .instr (.rolAbs 0x1234) [] ∧
    decode .ext [0x36, 0x34] = .instr (.rolZpx 0x34) [] ∧
    decode .ext [0x3E, 0x34, 0x12] = .instr (.rolAbx 0x1234) [] ∧
    decode .ext [0x66, 0x34] = .instr (.rorZpp 0x34) [] ∧
    decode .ext [0x6A] = .instr .rorAcc [] ∧
    decode .ext [0x6E, 0x34, 0x12] = .instr (.rorAbs 0x1234) [] ∧
    decode .ext [0x76, 0x34] = .instr (.rorZpx 0x34) [] ∧
    decode .ext [0x7E, 0x34, 0x12] = .instr (.rorAbx 0x1234) [] := by
  decide

theorem test_decode_loads :
    decode .ext [0xA1, 0x34] = .instr (.ldaIzx 0x34) [] ∧
    decode .ext [0xA5, 0x34] = .instr (.ldaZpp 0x34) [] ∧
    decode .ext [0xA9, 0x34] = .instr (.ldaImm 0x34) [] ∧
    decode .ext [0xAD, 0x34, 0x12] = .instr (.ldaAbs 0x1234) [] ∧
    decode .ext [0xB1, 0x34] = .instr (.ldaIzy 0x34) [] ∧
    decode .ext [0xB5, 0x34] = .instr (.ldaZpx 0x34) [] ∧
    decode .ext [0xB9, 0x34, 0x12] = .instr (.ldaAby 0x1234) [] ∧
    decode .ext [0xBD, 0x34, 0x12] = .instr (.ldaAbx 0x1234) [] ∧
    decode .ext [0xA2, 0x34] = .instr (.ldxImm 0x34) [] ∧
    decode .ext [0xA6, 0x34] = .instr (.ldxZpp 0x34) [] ∧
    decode .ext [0xAE, 0x34, 0x12] = .instr (.ldxAbs 0x1234) [] ∧
    decode .ext [0xB6, 0x34] = .instr (.ldxZpy 0x34) [] ∧
    decode .ext [0xBE, 0x34, 0x12] = .instr (.ldxAby 0x1234) [] ∧
    decode .ext [0xA0, 0x34] = .instr (.ldyImm 0x34) [] ∧
    decode .ext [0xA4, 0x34] = .instr (.ldyZpp 0x34) [] ∧
    decode .ext [0xAC, 0x34, 0x12] = .instr (.ldyAbs 0x1234) [] ∧
    decode .ext [0xB4, 0x34] = .instr (.ldyZpx 0x34) [] ∧
    decode .ext [0xBC, 0x34, 0x12] = .instr (.ldyAbx 0x1234) [] := by
  decide

theorem test_decode_stores :
    decode .ext [0x81, 0x34] = .instr (.staIzx 0x34) [] ∧
    decode .ext [0x85, 0x34] = .instr (.staZpp 0x34) [] ∧
    decode .ext [0x8D, 0x34, 0x12] = .instr (.staAbs 0x1234) [] ∧
    decode .ext [0x91, 0x34] = .instr (.staIzy 0x34) [] ∧
    decode .ext [0x95, 0x34] = .instr (.staZpx 0x34) [] ∧
    decode .ext [0x99, 0x34, 0x12] = .instr (.staAby 0x1234) [] ∧
    decode .ext [0x9D, 0x34, 0x12] = .instr (.staAbx 0x1234) [] ∧
    decode .ext [0x86, 0x34] = .instr (.stxZpp 0x34) [] ∧
    decode .ext [0x8E, 0x34, 0x12] = .instr (.stxAbs 0x1234) [] ∧
    decode .ext [0x96, 0x34] = .instr (.stxZpy 0x34) [] ∧
    decode .ext [0x84, 0x34] = .instr (.styZpp 0x34) [] ∧
    decode .ext [0x8C, 0x34, 0x12] = .instr (.styAbs 0x1234) [] ∧
    decode .ext [0x94, 0x34] = .instr (.styZpx 0x34) [] := by
  decide

theorem test_decode_transfers :
    decode .ext [0xAA] = .instr .tax [] ∧
    decode .ext [0xA8] = .instr .tay [] ∧
    decode .ext [0x8A] = .instr .txa [] ∧
    decode .ext [0x98] = .instr .tya [] ∧
    decode .ext [0xBA] = .instr .tsx [] ∧
    decode .ext [0x9A] = .instr .txs [] := by
  decide

theorem test_decode_increments :
    decode .ext [0xE6, 0x34] = .instr (.incZpp 0x34) [] ∧
    decode .ext [0xEE, 0x34, 0x12] = .instr (.incAbs 0x1234) [] ∧
    decode .ext [0xF6, 0x34] = .instr (.incZpx 0x34) [] ∧
    decode .ext [0xFE, 0x34, 0x12] = .instr (.incAbx 0x1234) [] ∧
    decode .ext [0xC6, 0x34] = .instr (.decZpp 0x34) [] ∧
    decode .ext [0xCE, 0x34, 0x12] = .instr (.decAbs 0x1234) [] ∧
    decode .ext [0xD6, 0x34] = .instr (.decZpx 0x34) [] ∧
    decode .ext [0xDE, 0x34, 0x12] = .instr (.decAbx 0x1234) [] ∧
    decode .ext [0xE8] = .instr .inx [] ∧
    decode .ext [0xC8] = .instr .iny [] ∧
    decode .ext [0xCA] = .instr .dex [] ∧
    decode .ext [0x88] = .instr .dey [] := by
  decide

theorem test_decode_eor_bit :
    decode .ext [0x41, 0x34] = .instr (.eorIzx 0x34) [] ∧
    decode .ext [0x45, 0x34] = .instr (.eorZpp 0x34) [] ∧
    decode .ext [0x49, 0x34] = .instr (.eorImm 0x34) [] ∧
    decode .ext [0x4D, 0x34, 0x12] = .instr (.eorAbs 0x1234) [] ∧
    decode .ext [0x51, 0x34] = .instr (.eorIzy 0x34) [] ∧
    decode .ext [0x55, 0x34] = .instr (.eorZpx 0x34) [] ∧
    decode .ext [0x59, 0x34, 0x12] = .instr (.eorAby 0x1234) [] ∧
    decode .ext [0x5D, 0x34, 0x12] = .instr (.eorAbx 0x1234) [] ∧
    decode .ext [0x24, 0x34] = .instr (.bitZpp 0x34) [] ∧
    decode .ext [0x2C, 0x34, 0x12] = .instr (.bitAbs 0x1234) [] := by
  decide

theorem test_decode_flags_nop :
    decode .ext [0x18] = .instr .clc [] ∧
    decode .ext [0x38] = .instr .sec [] ∧
    decode .ext [0x58] = .instr .cli [] ∧
    decode .ext [0x78] = .instr .sei [] ∧
    decode .ext [0xD8] = .instr .cld [] ∧
    decode .ext [0xF8] = .instr .sed [] ∧
    decode .ext [0xB8] = .instr .clv [] ∧
    decode .ext [0xEA] = .instr .nop [] := by
  decide

theorem test_decode_branches :
    decode .ext [0x10, 0x34] = .instr (.bpl 0x34) [] ∧
    decode .ext [0x30, 0x34] = .instr (.bmi 0x34) [] ∧
    decode .ext [0x50, 0x34] = .instr (.bvc 0x34) [] ∧
    decode .ext [0x70, 0x34] = .instr (.bvs 0x34) [] ∧
    decode .ext [0x90, 0x34] = .instr (.bcc 0x34) [] ∧
    decode .ext [0xB0, 0x34] = .instr (.bcs 0x34) [] ∧
    decode .ext [0xD0, 0x34] = .instr (.bne 0x34) [] ∧
    decode .ext [0xF0, 0x34] = .instr (.beq 0x34) [] := by
  decide

theorem test_decode_jumps_stack :
    decode .ext [0x4C, 0x34, 0x12] = .instr (.jmpAbs 0x1234) [] ∧
    decode .ext [0x6C, 0x34, 0x12] = .instr (.jmpInd 0x1234) [] ∧
    decode .ext [0x20, 0x34, 0x12] = .instr (.jsr 0x1234) [] ∧
    decode .ext [0x60] = .instr .rts [] ∧
    decode .ext [0x48] = .instr .pha [] ∧
    decode .ext [0x68] = .instr .pla [] := by
  decide

/-- R268: BRK, PHP, PLP and RTI are undefined in EXT too; R70: LDA is in CORE. -/
theorem test_decode_undefined :
    decode .ext [0x00] = .undefinedOpcode 0x00 ∧ decode .ext [0x08] = .undefinedOpcode 0x08 ∧
    decode .ext [0x28] = .undefinedOpcode 0x28 ∧ decode .ext [0x40] = .undefinedOpcode 0x40 ∧
    decode .core [0xA9, 0x01] = .undefinedOpcode 0xA9 := by
  decide

theorem test_decode_truncated : decode .ext [0x6D, 0x34] = .truncated ∧ decode .ext [] = .truncated := by decide

/-- R65, R68: the lookup's triple. -/
theorem test_lookup_spells_cpa :
    (lookup .core 0xC9).map (fun e => (e.mnemonic.name, e.mode, e.baseCycles)) = some ("CPA", .imm, 2) := by
  decide

theorem test_table_word : decodeTableWord 8 0x6D = some (.adcAbs 0x0000) ∧
    decodeTableWord 24 0x12346D = some (.adcAbs 0x1234) := by decide

/-! ## One tick, against the vectors of 95_test_vectors.md section 2.9 (X) and 2.5 (A) -/

/-- Vector X1. -/
theorem test_ldaImm_zero :
    after (step { seed 0x0200 [0xA9, 0x00] [] with A := 0x55, N := true })
      (fun t => (t.PC, t.CR, flags t, t.A)) =
    some (0x0202, 1, [false, true, false, false, false, false], 0x00) := by
  decide

/-- Vector X2. -/
theorem test_ldaImm_negative :
    after (step (seed 0x0200 [0xA9, 0x80] []))
      (fun t => (t.PC, t.CR, flags t, t.A)) =
    some (0x0202, 1, [false, false, false, false, false, true], 0x80) := by
  decide

/-- Vector X3. -/
theorem test_ldaAbx_crossing :
    after (step { seed 0x0200 [0xBD, 0xFF, 0x12] [(0x1300, 0x7F)] with X := 0x01 })
      (fun t => (t.PC, t.CR, flags t, t.A)) =
    some (0x0203, 4, [false, false, false, false, false, false], 0x7F) := by
  decide

/-- Vector X4. -/
theorem test_ldaAbx_within_page :
    after (step { seed 0x0200 [0xBD, 0x00, 0x12] [(0x1201, 0x7F)] with X := 0x01 })
      (fun t => (t.PC, t.CR, flags t, t.A)) =
    some (0x0203, 3, [false, false, false, false, false, false], 0x7F) := by
  decide

/-- Vector X5. -/
theorem test_ldxZpy_wraps :
    after (step { seed 0x0200 [0xB6, 0xF0] [(0x0010, 0x99)] with Y := 0x20 })
      (fun t => (t.PC, t.CR, flags t, t.X)) =
    some (0x0202, 3, [false, false, false, false, false, true], 0x99) := by
  decide

/-- Vector X6. -/
theorem test_ldxAby_crossing :
    after (step { seed 0x0200 [0xBE, 0xFF, 0x12] [(0x1300, 0x01)] with Y := 0x01 })
      (fun t => (t.PC, t.CR, flags t, t.X)) =
    some (0x0203, 4, [false, false, false, false, false, false], 0x01) := by
  decide

/-- Vector X7. -/
theorem test_ldaIzy_crossing :
    after (step { seed 0x0200 [0xB1, 0x10] [(0x0010, 0xFF), (0x0011, 0x02), (0x0300, 0xC3)] with Y := 0x01 })
      (fun t => (t.PC, t.CR, flags t, t.A)) =
    some (0x0202, 5, [false, false, false, false, false, true], 0xC3) := by
  decide

/-- Vector X8. -/
theorem test_staAbx_fixed_cost :
    after (step { seed 0x0200 [0x9D, 0xFF, 0x12] [] with A := 0x42, X := 0x01, Z := true })
      (fun t => (t.PC, t.CR, flags t, t.read 0x1300)) =
    some (0x0203, 4, [false, true, false, false, false, false], 0x42) := by
  decide

/-- Vector X9. -/
theorem test_staIzy_fixed_cost :
    after (step { seed 0x0200 [0x91, 0x10] [(0x0010, 0xFF), (0x0011, 0x02)] with A := 0x42, Y := 0x01 })
      (fun t => (t.PC, t.CR, flags t, t.read 0x0300)) =
    some (0x0202, 5, [false, false, false, false, false, false], 0x42) := by
  decide

/-- Vector X10. -/
theorem test_stxZpy_wraps :
    after (step { seed 0x0200 [0x96, 0xF0] [] with X := 0x42, Y := 0x20 })
      (fun t => (t.PC, t.CR, flags t, t.read 0x0010)) =
    some (0x0202, 3, [false, false, false, false, false, false], 0x42) := by
  decide

/-- Vector X11. -/
theorem test_incZpp_to_zero :
    after (step (seed 0x0200 [0xE6, 0x10] [(0x0010, 0xFF)]))
      (fun t => (t.PC, t.CR, flags t, t.read 0x0010)) =
    some (0x0202, 4, [false, true, false, false, false, false], 0x00) := by
  decide

/-- Vector X12. -/
theorem test_incZpp_to_negative :
    after (step (seed 0x0200 [0xE6, 0x10] [(0x0010, 0x7F)]))
      (fun t => (t.PC, t.CR, flags t, t.read 0x0010)) =
    some (0x0202, 4, [false, false, false, false, false, true], 0x80) := by
  decide

/-- Vector X13. -/
theorem test_decAbx_wraps :
    after (step { seed 0x0200 [0xDE, 0xFF, 0x12] [(0x1300, 0x00)] with X := 0x01 })
      (fun t => (t.PC, t.CR, flags t, t.read 0x1300)) =
    some (0x0203, 6, [false, false, false, false, false, true], 0xFF) := by
  decide

/-- Vector X14. -/
theorem test_inx_wraps :
    after (step { seed 0x0200 [0xE8] [] with X := 0xFF })
      (fun t => (t.PC, t.CR, flags t, t.X)) =
    some (0x0201, 1, [false, true, false, false, false, false], 0x00) := by
  decide

/-- Vector X15. -/
theorem test_dey_wraps :
    after (step { seed 0x0200 [0x88] [] with Y := 0x00 })
      (fun t => (t.PC, t.CR, flags t, t.Y)) =
    some (0x0201, 1, [false, false, false, false, false, true], 0xFF) := by
  decide

/-- Vector X16. -/
theorem test_eorImm_keeps_carry :
    after (step { seed 0x0200 [0x49, 0xFF] [] with A := 0xFF, C := true, V := true })
      (fun t => (t.PC, t.CR, flags t, t.A)) =
    some (0x0202, 1, [true, true, false, false, true, false], 0x00) := by
  decide

/-- Vector X17. -/
theorem test_bitZpp_bits :
    after (step { seed 0x0200 [0x24, 0x10] [(0x0010, 0xC0)] with A := 0x01 })
      (fun t => (t.PC, t.CR, flags t)) =
    some (0x0202, 2, [false, true, false, false, true, true]) := by
  decide

/-- Vector X18. -/
theorem test_bitAbs_clears :
    after (step { seed 0x0200 [0x2C, 0x34, 0x12] [(0x1234, 0x01)] with A := 0xFF, V := true, N := true })
      (fun t => (t.PC, t.CR, flags t)) =
    some (0x0203, 3, [false, false, false, false, false, false]) := by
  decide

/-- Vector X19. -/
theorem test_tax_negative :
    after (step { seed 0x0200 [0xAA] [] with A := 0x80 })
      (fun t => (t.PC, t.CR, flags t, t.X)) =
    some (0x0201, 1, [false, false, false, false, false, true], 0x80) := by
  decide

/-- Vector X20. -/
theorem test_txs_no_flags :
    after (step { seed 0x0200 [0x9A] [] with X := 0x80, Z := true })
      (fun t => (t.PC, t.CR, flags t, t.SP)) =
    some (0x0201, 1, [false, true, false, false, false, false], 0x80) := by
  decide

/-- Vector X21. -/
theorem test_tsx_zero :
    after (step { seed 0x0200 [0xBA] [] with SP := 0x00 })
      (fun t => (t.PC, t.CR, flags t)) =
    some (0x0201, 1, [false, true, false, false, false, false]) := by
  decide

/-- Vector X22. -/
theorem test_sec_sets :
    after (step (seed 0x0200 [0x38] []))
      (fun t => (t.PC, t.CR, flags t)) =
    some (0x0201, 1, [true, false, false, false, false, false]) := by
  decide

/-- Vector X23. -/
theorem test_clv_clears :
    after (step { seed 0x0200 [0xB8] [] with V := true })
      (fun t => (t.PC, t.CR, flags t)) =
    some (0x0201, 1, [false, false, false, false, false, false]) := by
  decide

/-- Vector X24. -/
theorem test_sed_sets :
    after (step (seed 0x0200 [0xF8] []))
      (fun t => (t.PC, t.CR, flags t)) =
    some (0x0201, 1, [false, false, false, true, false, false]) := by
  decide

/-- Vector X25. -/
theorem test_nop_nothing :
    after (step { seed 0x0200 [0xEA] [] with A := 0x01, C := true })
      (fun t => (t.PC, t.CR, flags t)) =
    some (0x0201, 1, [true, false, false, false, false, false]) := by
  decide

/-- Vector X26. -/
theorem test_bne_taken :
    after (step { seed 0x0200 [0xD0, 0x05] [] with Z := false })
      (fun t => (t.PC, t.CR, flags t)) =
    some (0x0207, 2, [false, false, false, false, false, false]) := by
  decide

/-- Vector X27. -/
theorem test_bne_not_taken :
    after (step { seed 0x0200 [0xD0, 0x05] [] with Z := true })
      (fun t => (t.PC, t.CR, flags t)) =
    some (0x0202, 1, [false, true, false, false, false, false]) := by
  decide

/-- Vector X28. -/
theorem test_beq_to_itself :
    after (step { seed 0x0200 [0xF0, 0xFE] [] with Z := true })
      (fun t => (t.PC, t.CR, flags t)) =
    some (0x0200, 2, [false, true, false, false, false, false]) := by
  decide

/-- Vector X29. -/
theorem test_bcc_next_page :
    after (step { seed 0x02FD [0x90, 0x01] [] with C := false })
      (fun t => (t.PC, t.CR, flags t)) =
    some (0x0300, 3, [false, false, false, false, false, false]) := by
  decide

/-- Vector X30. -/
theorem test_bvs_backward :
    after (step { seed 0x0300 [0x70, 0xFC] [] with V := true })
      (fun t => (t.PC, t.CR, flags t)) =
    some (0x02FE, 3, [false, false, false, false, true, false]) := by
  decide

/-- Vector X31. -/
theorem test_bpl_zero_offset :
    after (step { seed 0x02FE [0x10, 0x00] [] with N := false })
      (fun t => (t.PC, t.CR, flags t)) =
    some (0x0300, 2, [false, false, false, false, false, false]) := by
  decide

/-- Vector X32. -/
theorem test_bmi_forward :
    after (step { seed 0x0200 [0x30, 0x7F] [] with N := true })
      (fun t => (t.PC, t.CR, flags t)) =
    some (0x0281, 2, [false, false, false, false, false, true]) := by
  decide

/-- Vector X33. -/
theorem test_bcs_most_negative :
    after (step { seed 0x0200 [0xB0, 0x80] [] with C := true })
      (fun t => (t.PC, t.CR, flags t)) =
    some (0x0182, 3, [true, false, false, false, false, false]) := by
  decide

/-- Vector X34. -/
theorem test_bvc_wraps :
    after (step { seed 0xFFF0 [0x50, 0x20] [] with V := false })
      (fun t => (t.PC, t.CR, flags t)) =
    some (0x0012, 3, [false, false, false, false, false, false]) := by
  decide

/-- Vector X35. -/
theorem test_jmpAbs_target :
    after (step (seed 0x0200 [0x4C, 0x00, 0x03] []))
      (fun t => (t.PC, t.CR, flags t)) =
    some (0x0300, 2, [false, false, false, false, false, false]) := by
  decide

/-- Vector X36. -/
theorem test_jmpInd_target :
    after (step (seed 0x0200 [0x6C, 0x34, 0x12] [(0x1234, 0x78), (0x1235, 0x56)]))
      (fun t => (t.PC, t.CR, flags t)) =
    some (0x5678, 4, [false, false, false, false, false, false]) := by
  decide

/-- Vector X37. -/
theorem test_jmpInd_page_wrap :
    after (step (seed 0x0200 [0x6C, 0xFF, 0x12] [(0x12FF, 0x34), (0x1200, 0x56), (0x1300, 0xEE)]))
      (fun t => (t.PC, t.CR, flags t)) =
    some (0x5634, 4, [false, false, false, false, false, false]) := by
  decide

/-- Vector X38. -/
theorem test_jsr_pushes :
    after (step { seed 0x0200 [0x20, 0x00, 0x03] [] with SP := 0xFF })
      (fun t => (t.PC, t.CR, flags t, t.SP, t.read 0x01FF, t.read 0x01FE)) =
    some (0x0300, 5, [false, false, false, false, false, false], 0xFD, 0x02, 0x02) := by
  decide

/-- Vector X39. -/
theorem test_jsr_stack_wrap :
    after (step { seed 0x0200 [0x20, 0x00, 0x03] [] with SP := 0x00 })
      (fun t => (t.PC, t.CR, flags t, t.SP, t.read 0x0100, t.read 0x01FF)) =
    some (0x0300, 5, [false, false, false, false, false, false], 0xFE, 0x02, 0x02) := by
  decide

/-- Vector X40. -/
theorem test_rts_returns :
    after (step { seed 0x0300 [0x60] [(0x01FE, 0x02), (0x01FF, 0x02)] with SP := 0xFD })
      (fun t => (t.PC, t.CR, flags t, t.SP)) =
    some (0x0203, 5, [false, false, false, false, false, false], 0xFF) := by
  decide

/-- Vector X41. -/
theorem test_rts_wraps :
    after (step { seed 0x0300 [0x60] [(0x01FE, 0xFF), (0x01FF, 0xFF)] with SP := 0xFD })
      (fun t => (t.PC, t.CR, flags t, t.SP)) =
    some (0x0000, 5, [false, false, false, false, false, false], 0xFF) := by
  decide

/-- Vector X42. -/
theorem test_pha_pushes :
    after (step { seed 0x0200 [0x48] [] with A := 0x42, SP := 0x00 })
      (fun t => (t.PC, t.CR, flags t, t.SP, t.read 0x0100)) =
    some (0x0201, 2, [false, false, false, false, false, false], 0xFF, 0x42) := by
  decide

/-- Vector X43. -/
theorem test_pla_stack_wrap :
    after (step { seed 0x0200 [0x68] [(0x0100, 0x80)] with SP := 0xFF })
      (fun t => (t.PC, t.CR, flags t, t.A, t.SP)) =
    some (0x0201, 3, [false, false, false, false, false, true], 0x80, 0x00) := by
  decide

/-- Vector X44. -/
theorem test_pla_zero :
    after (step { seed 0x0200 [0x68] [(0x0111, 0x00)] with SP := 0x10, A := 0x55 })
      (fun t => (t.PC, t.CR, flags t, t.A, t.SP)) =
    some (0x0201, 3, [false, true, false, false, false, false], 0x00, 0x11) := by
  decide

/-- Vector A1. -/
theorem test_andImm_mask :
    after (step { seed 0x0200 [0x29, 0x0F] [] with A := 0xFF })
      (fun t => (t.PC, t.CR, flags t, t.A)) =
    some (0x0202, 1, [false, false, false, false, false, false], 0x0F) := by
  decide

/-- Vector A2. -/
theorem test_andZpp_value :
    after (step { seed 0x0200 [0x25, 0x80] [(0x0080, 0x3C)] with A := 0xFF })
      (fun t => (t.PC, t.CR, flags t, t.A)) =
    some (0x0202, 2, [false, false, false, false, false, false], 0x3C) := by
  decide

/-- Vector A3. -/
theorem test_oraZpx_wraps :
    after (step { seed 0x0200 [0x15, 0xF0] [(0x0010, 0x77), (0x0110, 0xEE)] with A := 0x00, X := 0x20 })
      (fun t => (t.PC, t.CR, flags t, t.A)) =
    some (0x0202, 3, [false, false, false, false, false, false], 0x77) := by
  decide

/-- Vector A5. -/
theorem test_oraZpx_wraps_to_zero :
    after (step { seed 0x0200 [0x15, 0xFF] [(0x0000, 0x22), (0x0100, 0xEE)] with A := 0x00, X := 0x01 })
      (fun t => (t.PC, t.CR, flags t, t.A)) =
    some (0x0202, 3, [false, false, false, false, false, false], 0x22) := by
  decide

/-- Vector A7. -/
theorem test_adcAbs_value :
    after (step { seed 0x0200 [0x6D, 0x34, 0x12] [(0x1234, 0x02)] with A := 0x01 })
      (fun t => (t.PC, t.CR, flags t, t.A)) =
    some (0x0203, 3, [false, false, false, false, false, false], 0x03) := by
  decide

/-- Vector A9. -/
theorem test_adcAbx_crossing :
    after (step { seed 0x0200 [0x7D, 0xF0, 0x12] [(0x1300, 0x02)] with A := 0x01, X := 0x10 })
      (fun t => (t.PC, t.CR, flags t, t.A)) =
    some (0x0203, 4, [false, false, false, false, false, false], 0x03) := by
  decide

/-- Vector A10. -/
theorem test_adcAbx_wraps :
    after (step { seed 0x0200 [0x7D, 0xFF, 0xFF] [(0x0000, 0x02)] with A := 0x01, X := 0x01 })
      (fun t => (t.PC, t.CR, flags t, t.A)) =
    some (0x0203, 4, [false, false, false, false, false, false], 0x03) := by
  decide

/-- Vector A12. -/
theorem test_adcAby_within_page :
    after (step { seed 0x0200 [0x79, 0x00, 0x20] [(0x20FF, 0x02)] with A := 0x01, Y := 0xFF })
      (fun t => (t.PC, t.CR, flags t, t.A)) =
    some (0x0203, 3, [false, false, false, false, false, false], 0x03) := by
  decide

/-- Vector A13. -/
theorem test_adcAby_crossing :
    after (step { seed 0x0200 [0x79, 0x01, 0x20] [(0x2100, 0x02)] with A := 0x01, Y := 0xFF })
      (fun t => (t.PC, t.CR, flags t, t.A)) =
    some (0x0203, 4, [false, false, false, false, false, false], 0x03) := by
  decide

/-- Vector A14. -/
theorem test_cpaAby_equal :
    after (step { seed 0x0200 [0xD9, 0xFF, 0x12] [(0x12FF, 0x05)] with A := 0x05, Y := 0x00 })
      (fun t => (t.PC, t.CR, flags t, t.A)) =
    some (0x0203, 3, [true, true, false, false, false, false], 0x05) := by
  decide

/-- Vector A15. -/
theorem test_adcIzx_wraps :
    after (step { seed 0x0200 [0x61, 0xF0] [(0x0010, 0x00), (0x0011, 0x30), (0x3000, 0x02)] with A := 0x01, X := 0x20 })
      (fun t => (t.PC, t.CR, flags t, t.A)) =
    some (0x0202, 5, [false, false, false, false, false, false], 0x03) := by
  decide

/-- Vector A16. -/
theorem test_adcIzx_pointer_wraps :
    after (step { seed 0x0200 [0x61, 0xFF] [(0x00FF, 0x34), (0x0000, 0x12), (0x0100, 0xEE), (0x1234, 0x02)] with A := 0x01, X := 0x00 })
      (fun t => (t.PC, t.CR, flags t, t.A)) =
    some (0x0202, 5, [false, false, false, false, false, false], 0x03) := by
  decide

/-- Vector A19. -/
theorem test_adcIzy_crossing :
    after (step { seed 0x0200 [0x71, 0x10] [(0x0010, 0xFF), (0x0011, 0x02), (0x0300, 0x02)] with A := 0x01, Y := 0x01 })
      (fun t => (t.PC, t.CR, flags t, t.A)) =
    some (0x0202, 5, [false, false, false, false, false, false], 0x03) := by
  decide

/-- Vector A21. -/
theorem test_adcIzy_pointer_wraps :
    after (step { seed 0x0200 [0x71, 0xFF] [(0x00FF, 0x30), (0x0000, 0x12), (0x0100, 0xEE), (0x1234, 0x02)] with A := 0x01, Y := 0x04 })
      (fun t => (t.PC, t.CR, flags t, t.A)) =
    some (0x0202, 4, [false, false, false, false, false, false], 0x03) := by
  decide

/-- Vector A24. -/
theorem test_aslAcc_value :
    after (step { seed 0x0200 [0x0A] [] with A := 0x41 })
      (fun t => (t.PC, t.CR, flags t, t.A)) =
    some (0x0201, 1, [false, false, false, false, false, true], 0x82) := by
  decide

/-- Vector A25. -/
theorem test_aslZpp_value :
    after (step { seed 0x0200 [0x06, 0x80] [(0x0080, 0x41)] with A := 0x99 })
      (fun t => (t.PC, t.CR, flags t, t.A, t.read 0x0080)) =
    some (0x0202, 4, [false, false, false, false, false, true], 0x99, 0x82) := by
  decide

/-- Vector A26. -/
theorem test_aslZpx_wraps :
    after (step { seed 0x0200 [0x16, 0xF0] [(0x0010, 0x41)] with A := 0x99, X := 0x20 })
      (fun t => (t.PC, t.CR, flags t, t.A, t.read 0x0010)) =
    some (0x0202, 5, [false, false, false, false, false, true], 0x99, 0x82) := by
  decide

/-- Vector A27. -/
theorem test_aslAbs_value :
    after (step { seed 0x0200 [0x0E, 0x34, 0x12] [(0x1234, 0x41)] with A := 0x99 })
      (fun t => (t.PC, t.CR, flags t, t.A, t.read 0x1234)) =
    some (0x0203, 5, [false, false, false, false, false, true], 0x99, 0x82) := by
  decide

/-- Vector A28. -/
theorem test_aslAbx_within_page :
    after (step { seed 0x0200 [0x1E, 0xF0, 0x12] [(0x12FF, 0x41)] with A := 0x99, X := 0x0F })
      (fun t => (t.PC, t.CR, flags t, t.A, t.read 0x12FF)) =
    some (0x0203, 6, [false, false, false, false, false, true], 0x99, 0x82) := by
  decide

/-- Vector A29. -/
theorem test_aslAbx_crossing :
    after (step { seed 0x0200 [0x1E, 0xF0, 0x12] [(0x1300, 0x41)] with A := 0x99, X := 0x10 })
      (fun t => (t.PC, t.CR, flags t, t.A, t.read 0x1300)) =
    some (0x0203, 6, [false, false, false, false, false, true], 0x99, 0x82) := by
  decide

/-- Vector S1. -/
theorem test_adcImm_overflow :
    after (step { seed 0x0200 [0x69, 0x01] [] with A := 0x7F })
      (fun t => (t.PC, t.CR, flags t, t.A)) =
    some (0x0202, 1, [false, false, false, false, true, true], 0x80) := by
  decide

/-- Vector E9. -/
theorem test_adcImm_ignores_decimal :
    after (step { seed 0x0200 [0x69, 0x09] [] with A := 0x09, D := true })
      (fun t => (t.PC, t.CR, flags t, t.A)) =
    some (0x0202, 1, [false, false, false, true, false, false], 0x12) := by
  decide

/-- Vector E1 (PC wraps), on R16. -/
theorem test_adcAbs_across_the_top :
    after (step { seed 0xFFFE [0x6D, 0x34, 0x12] [(0x1234, 0x07)] with A := 0x01 })
      (fun t => (t.PC, t.CR, flags t, t.A)) =
    some (0x0001, 3, [false, false, false, false, false, false], 0x08) := by
  decide

/-- Vector 2.2 row 5. -/
theorem test_sbcImm_overflow :
    after (step { seed 0x0200 [0xE9, 0xB0] [] with A := 0x50, C := true })
      (fun t => (t.PC, t.CR, flags t, t.A)) =
    some (0x0202, 1, [false, false, false, false, true, true], 0xA0) := by
  decide

/-- Vector 2.2 row 10. -/
theorem test_sbcImm_overflow_negative :
    after (step { seed 0x0200 [0xE9, 0x70] [] with A := 0xD0, C := true })
      (fun t => (t.PC, t.CR, flags t, t.A)) =
    some (0x0202, 1, [true, false, false, false, true, false], 0x60) := by
  decide

/-- Vector S4. -/
theorem test_sbcIzx_zero_page_wrap :
    after (step { seed 0x0200 [0xE1, 0xF0] [(0x0010, 0x00), (0x0011, 0x30)] with X := 0x20 })
      (fun t => (t.PC, t.CR, flags t, t.A)) =
    some (0x0202, 5, [false, false, false, false, false, true], 0xFF) := by
  decide

/-- Vector 2.3 CPX row 2. -/
theorem test_cpxImm_less :
    after (step { seed 0x0200 [0xE0, 0x01] [] with X := 0x00 })
      (fun t => (t.PC, t.CR, flags t, t.X)) =
    some (0x0202, 1, [false, false, false, false, false, true], 0x00) := by
  decide

/-- Vector 2.3 CPY row 7. -/
theorem test_cpyImm_greater :
    after (step { seed 0x0200 [0xC0, 0x00] [] with Y := 0xFF, V := true })
      (fun t => (t.PC, t.CR, flags t, t.Y)) =
    some (0x0202, 1, [true, false, false, false, true, true], 0xFF) := by
  decide

/-- Vector 2.3 CPA row 4. -/
theorem test_cpaImm_unsigned :
    after (step { seed 0x0200 [0xC9, 0x80] [] with A := 0x00 })
      (fun t => (t.PC, t.CR, flags t, t.A)) =
    some (0x0202, 1, [false, false, false, false, false, true], 0x00) := by
  decide

/-- Vector 2.3 ORA row 1. -/
theorem test_oraImm_keeps_carry :
    after (step { seed 0x0200 [0x09, 0x0F] [] with A := 0xF0, C := true, V := true })
      (fun t => (t.PC, t.CR, flags t, t.A)) =
    some (0x0202, 1, [true, false, false, false, true, true], 0xFF) := by
  decide

/-- Vector S3. -/
theorem test_rolAcc_carry_out :
    after (step { seed 0x0200 [0x2A] [] with A := 0xC0 })
      (fun t => (t.PC, t.CR, flags t, t.A)) =
    some (0x0201, 1, [true, false, false, false, false, true], 0x80) := by
  decide

/-- Vector 2.4 input 0x00, carry 1. -/
theorem test_rolAcc_carry_in :
    after (step { seed 0x0200 [0x2A] [] with A := 0x00, C := true })
      (fun t => (t.PC, t.CR, flags t, t.A)) =
    some (0x0201, 1, [false, false, false, false, false, false], 0x01) := by
  decide

/-- Vector 2.4 input 0x81, carry 1. -/
theorem test_rorAcc_both_ends :
    after (step { seed 0x0200 [0x6A] [] with A := 0x81, C := true })
      (fun t => (t.PC, t.CR, flags t, t.A)) =
    some (0x0201, 1, [true, false, false, false, false, true], 0xC0) := by
  decide

/-- Vector 2.4 input 0x01, carry 1. -/
theorem test_lsrAcc_to_zero :
    after (step { seed 0x0200 [0x4A] [] with A := 0x01, C := true, N := true })
      (fun t => (t.PC, t.CR, flags t, t.A)) =
    some (0x0201, 1, [true, true, false, false, false, false], 0x00) := by
  decide

/-- Vector 2.6. -/
theorem test_rorAbx_fixed_cost :
    after (step { seed 0x0200 [0x7E, 0xF0, 0x12] [(0x1300, 0x03)] with X := 0x10, C := true })
      (fun t => (t.PC, t.CR, flags t, t.A, t.read 0x1300)) =
    some (0x0203, 6, [true, false, false, false, false, true], 0x00, 0x81) := by
  decide

/-- Vector E4. -/
theorem test_aslZpp_own_opcode :
    after (step (seed 0x0000 [0x06, 0x00] []))
      (fun t => (t.PC, t.CR, flags t, t.read 0x0000)) =
    some (0x0002, 4, [false, false, false, false, false, false], 0x0C) := by
  decide

/-- Vector R206 example. -/
theorem test_ldyImm_value :
    after (step (seed 0x0200 [0xA0, 0x7F] []))
      (fun t => (t.PC, t.CR, flags t, t.Y)) =
    some (0x0202, 1, [false, false, false, false, false, false], 0x7F) := by
  decide

/-- Vector R209 example. -/
theorem test_styZpp_value :
    after (step { seed 0x0200 [0x84, 0x10] [] with Y := 0xFF })
      (fun t => (t.PC, t.CR, flags t, t.read 0x0010)) =
    some (0x0202, 2, [false, false, false, false, false, false], 0xFF) := by
  decide

/-- Vector R211 example. -/
theorem test_tay_zero :
    after (step { seed 0x0200 [0xA8] [] with A := 0x00, Y := 0x05 })
      (fun t => (t.PC, t.CR, flags t, t.Y)) =
    some (0x0201, 1, [false, true, false, false, false, false], 0x00) := by
  decide

/-- Vector R212 example. -/
theorem test_txa_value :
    after (step { seed 0x0200 [0x8A] [] with X := 0x01 })
      (fun t => (t.PC, t.CR, flags t, t.A)) =
    some (0x0201, 1, [false, false, false, false, false, false], 0x01) := by
  decide

/-- Vector R213 example. -/
theorem test_tya_negative :
    after (step { seed 0x0200 [0x98] [] with Y := 0xFF })
      (fun t => (t.PC, t.CR, flags t, t.A)) =
    some (0x0201, 1, [false, false, false, false, false, true], 0xFF) := by
  decide

/-- Vector R217 example. -/
theorem test_decZpp_to_zero :
    after (step (seed 0x0200 [0xC6, 0x10] [(0x0010, 0x01)]))
      (fun t => (t.PC, t.CR, flags t, t.read 0x0010)) =
    some (0x0202, 4, [false, true, false, false, false, false], 0x00) := by
  decide

/-- Vector R219 example. -/
theorem test_iny_negative :
    after (step { seed 0x0200 [0xC8] [] with Y := 0x7F })
      (fun t => (t.PC, t.CR, flags t, t.Y)) =
    some (0x0201, 1, [false, false, false, false, false, true], 0x80) := by
  decide

/-- Vector R220 example. -/
theorem test_dex_wraps :
    after (step { seed 0x0200 [0xCA] [] with X := 0x00 })
      (fun t => (t.PC, t.CR, flags t, t.X)) =
    some (0x0201, 1, [false, false, false, false, false, true], 0xFF) := by
  decide

/-- Vector R224. -/
theorem test_clc_clears :
    after (step { seed 0x0200 [0x18] [] with C := true, V := true })
      (fun t => (t.PC, t.CR, flags t)) =
    some (0x0201, 1, [false, false, false, false, true, false]) := by
  decide

/-- Vector R226. -/
theorem test_cli_clears :
    after (step { seed 0x0200 [0x58] [] with I := true, D := true })
      (fun t => (t.PC, t.CR, flags t)) =
    some (0x0201, 1, [false, false, false, true, false, false]) := by
  decide

/-- Vector R227. -/
theorem test_sei_sets :
    after (step (seed 0x0200 [0x78] []))
      (fun t => (t.PC, t.CR, flags t)) =
    some (0x0201, 1, [false, false, true, false, false, false]) := by
  decide

/-- Vector R228. -/
theorem test_cld_clears :
    after (step { seed 0x0200 [0xD8] [] with I := true, D := true })
      (fun t => (t.PC, t.CR, flags t)) =
    some (0x0201, 1, [false, false, true, false, false, false]) := by
  decide

/-! ## Faults, Running ticks, reset, access order -/

/-- Vector E5: an undefined opcode faults with the byte and its address, in CORE for NOP and in EXT for BRK. -/
theorem test_undefined_opcode_faults :
    faultOf (stepIn .core (seed 0x0200 [0xEA] [])) = some (.undefinedOpcode 0xEA 0x0200) ∧
    faultOf (step (seed 0x0200 [0x00] [])) = some (.undefinedOpcode 0x00 0x0200) := by
  decide

/-- Scenario S1, tick 2: only CR changes. -/
theorem test_running_tick : after (step { seed 0x0202 [] [] with A := 0x80, N := true, CR := 1 })
    (fun t => (t.A, t.PC, t.CR, flags t)) =
    some (0x80, 0x0202, 0, [false, false, false, false, false, true]) := by
  decide

/-- Vector E7: reset from a Running state with every register and flag set. -/
theorem test_reset_reads_vector :
    after (hostAct .core Config.init .reset { seed 0xFFFC [0x34, 0x12] [] with
        A := 9, X := 9, Y := 9, SP := 9, C := true, Z := true, I := true, D := true, V := true, N := true, CR := 3 })
      (fun t => ([t.A, t.X, t.Y, t.SP], t.PC, t.CR, flags t)) =
    some ([0, 0, 0, 0], 0x1234, 0, [false, false, false, false, false, false]) := by
  decide

/-- R181, R187, U9: a Cpu constructed with `INIT_SP == 0xFD` and `I` set has them again after a reset. -/
theorem test_reset_restores_construction :
    after (hostSession .ext { Config.init with SP := 0xFD, I := true } [] [.writeSP 0x00, .writeI false, .reset])
      (fun t => (t.SP, t.I)) = some (0xFD, true) := by
  decide

/-- The access order of scenario S2 and of the trace of section 2.6. -/
theorem test_access_order :
    (match idleTickLogged .core { seed 0x0200 [0x71, 0x10] [(0x0010, 0xFF), (0x0011, 0x02), (0x0300, 0x05)] with Y := 1 } with
      | .next t => t.log | .fault _ | .refused _ => []) =
      [.read 0x0200, .read 0x0201, .read 0x0010, .read 0x0011, .read 0x0300] ∧
    (match idleTickLogged .core { seed 0x0200 [0x7E, 0xF0, 0x12] [(0x1300, 0x03)] with X := 0x10, C := true } with
      | .next t => t.log | .fault _ | .refused _ => []) =
      [.read 0x0200, .read 0x0201, .read 0x0202, .read 0x1300, .write 0x1300 0x81] := by
  decide

/-- Vector X38: JSR reads both target bytes before it pushes. -/
theorem test_access_order_jsr :
    (match idleTickLogged .ext { seed 0x0200 [0x20, 0x00, 0x03] [] with SP := 0xFF } with
      | .next t => t.log | .fault _ | .refused _ => []) =
      [.read 0x0200, .read 0x0201, .read 0x0202, .write 0x01FF 0x02, .write 0x01FE 0x02] := by
  decide

/-- R180: a reset reads the vector, low byte first, and writes nothing. -/
theorem test_access_order_reset :
    (resetLogged Config.init ⟨seed 0xFFFC [0x34, 0x12] [], []⟩).log = [.read 0xFFFC, .read 0xFFFD] ∧
    (resetLogged Config.init ⟨seed 0xFFFC [0x34, 0x12] [], []⟩).state.PC = 0x1234 := by
  decide

/-- R95: a write through an immediate operand is refused by name, and an implied operand has no value. -/
theorem test_operand_refusals :
    operandWrite (.imm 0x01) 0x02 State.reset = .refused .immediateDestination ∧
    operandRead .implied State.reset = .refused .noOperand := ⟨rfl, rfl⟩

/-- Withdrawing the last byte that differs from an unlisted one leaves nothing listed. -/
theorem test_memory_canonical : (Memory.write (Memory.write [] 0x10 0x05) 0x10 0x00) = [] ∧
    (Memory.write (Memory.write [] 0x20 0x01) 0x10 0x02) = [(0x10, 0x02), (0x20, 0x01)] := by
  decide

theorem test_placed_word_runs : after (step (State.reset.withFetchWord 8 0xA9)) (fun t => (t.A, t.Z, t.PC, t.CR)) =
    some (0x00, true, 0x0002, 1) := by
  decide

/-! ## Witnesses: a state and operands that meet the hypotheses of each statement that has any -/

/-- A small state at an instruction boundary: `ADC #$01` at 0x0200. -/
def adcState : State := { seed 0x0200 [0x69, 0x01] [] with A := 0x7F }

theorem witness_DecodeInvertsEncode :
    (Instr.adcAbx 0xFFFF).wellFormed .core = true ∧ (Instr.bpl 0x80).wellFormed .ext = true := by decide

theorem witness_EncodeInvertsDecode :
    decode .core [0x7D, 0xFF, 0xFF, 0xEA] = .instr (.adcAbx 0xFFFF) [0xEA] := by decide

theorem witness_UndefinedOpcodes : State.reset.CR = 0 ∧
    lookup .ext (State.reset.read State.reset.PC) = none := by decide

theorem witness_ExtExtendsCore :
    (lookup .core 0x69).isSome = true ∧ (decodeAt .core 0x69 0x01 0x00).isSome = true ∧
      ∃ t, stepIn .core adcState = .next t :=
  ⟨by decide, by decide, _, rfl⟩

/-- Each way a resolution can cross, at the smallest base that does. -/
theorem witness_ResolutionStaysInPage :
    (resolve (.abx 0x12FF) { State.reset with X := 1 }).crossed = true ∧
    (resolve (.aby 0x12FF) { State.reset with Y := 1 }).crossed = true ∧
    (resolve (.izy 0x10) { seed 0x0200 [] [(0x0010, 0xFF), (0x0011, 0x02)] with Y := 1 }).crossed = true ∧
    (resolve (.rel 0x01) { State.reset with PC := 0x02FF }).crossed = true := by
  decide

theorem witness_AddSubtract : (Instr.adcIzy 0x10).mnemonic = .adc ∧ (Instr.sbcIzx 0xFF).mnemonic = .sbc := by decide

theorem witness_AndOra : (Instr.andImm 0x00).mnemonic = .and ∧ (Instr.oraAby 0xFFFF).mnemonic = .ora := by decide

theorem witness_Compare : (Instr.cpaAbx 0xFFFF).mnemonic = .cpa ∧ (Instr.cpxZpp 0x00).mnemonic = .cpx ∧
    (Instr.cpyAbs 0x0000).mnemonic = .cpy := by decide

theorem witness_CompareAgreesWithSbc :
    comparedRegister (Instr.cpaIzy 0xFF).mnemonic adcState = some 0x7F ∧
    comparedRegister (Instr.cpxAbs 0xFFFF).mnemonic adcState = some 0x00 ∧
    comparedRegister (Instr.cpyImm 0x00).mnemonic adcState = some 0x00 := by decide

theorem witness_Shifts : Instr.aslAcc.mnemonic = .asl ∧ (Instr.lsrZpx 0xFF).mnemonic = .lsr ∧
    (Instr.rolAbs 0x0000).mnemonic = .rol ∧ (Instr.rorAbx 0xFFFF).mnemonic = .ror := by decide

theorem witness_LoadsStores : (Instr.ldaImm 0x00).mnemonic = .lda ∧ (Instr.ldxZpy 0xFF).mnemonic = .ldx ∧
    (Instr.ldyAbx 0xFFFF).mnemonic = .ldy ∧ (Instr.staIzy 0xFF).mnemonic = .sta ∧
    (Instr.stxZpy 0x00).mnemonic = .stx ∧ (Instr.styAbs 0xFFFF).mnemonic = .sty := by decide

theorem witness_MemoryIncrementDecrement : (Instr.incAbx 0xFFFF).mnemonic = .inc ∧
    (Instr.decZpx 0xFF).mnemonic = .dec := by decide

theorem witness_EorAndBit : (Instr.eorIzx 0xFF).mnemonic = .eor ∧ (Instr.bitAbs 0x0000).mnemonic = .bit := by decide

/-- Taken and not taken, at both ends of the displacement. -/
theorem witness_Branches :
    branchCondition (Instr.bne 0x80).mnemonic State.reset = some true ∧
    branchCondition (Instr.beq 0x7F).mnemonic State.reset = some false := by
  decide

/-- A flag, a register and an address that each frame's hypotheses leave. -/
theorem witness_Frames :
    .V ∉ flagsWritten (Instr.cpaImm 0x01).mnemonic ∧ .C ∉ flagsWritten Instr.nop.mnemonic ∧
    .A ∉ registersWritten (.aslZpp 0x10) ∧ .SP ∉ registersWritten Instr.tax ∧
    storeAddress (.staAbs 0x1234) State.reset ≠ some 0x1235 ∧
    (0x1235 : Word) ∉ pushAddresses (.staAbs 0x1234) State.reset ∧
    storeAddress (.jsr 0x1234) State.reset ≠ some 0x01FE ∧
    (0x01FE : Word) ∉ pushAddresses (.jsr 0x1234) State.reset := by
  decide

theorem witness_CoreTicksKeepIndexRegisters : ∃ t, stepIn .core adcState = .next t := ⟨_, rfl⟩

/-- One CORE instruction for each kind of result. -/
theorem witness_CoreResultSetsZeroNegative : (Instr.lsrAbx 0xFFFF).mnemonic.isCore = true ∧
    Instr.rolAcc.mnemonic.isCore = true ∧ (Instr.cpxImm 0x00).mnemonic.isCore = true ∧
    (Instr.oraZpp 0xFF).mnemonic.isCore = true := by decide

theorem witness_PcMovesPastInstruction : (Instr.adcAbs 0xFFFF).mnemonic.opClass ≠ .branch ∧
    (Instr.adcAbs 0xFFFF).mnemonic.opClass ≠ .jump := by decide

/-- A crossing and a non-crossing read-only instruction of an indexed mode, and one of another mode. -/
theorem witness_PageCrossPenalty :
    (Instr.ldaAbx 0x12FF).mnemonic.opClass = .readOnly ∧ (Instr.ldaAbx 0x12FF).mode = .abx ∧
    (operandOf (.ldaAbx 0x12FF) { State.reset with X := 1 }).crossed = true ∧
    (operandOf (.ldaAbx 0x12FF) State.reset).crossed = false ∧
    (Instr.ldaIzx 0xFF).mnemonic.opClass = .readOnly ∧ (Instr.ldaIzx 0xFF).mode = .izx := by
  decide

theorem witness_StepRunsDecodedInstruction : adcState.CR = 0 ∧
    decode Config.profile [adcState.read adcState.PC, adcState.read (adcState.PC + 1),
      adcState.read (adcState.PC + 2)] = .instr (.adcImm 0x01) [0x00] := by
  decide

theorem witness_RunningTickOnlyCounts : 0 < { adcState with CR := 1 }.CR := by decide

theorem witness_FaultRepeatsAndSticks :
    stepIn .ext State.reset = .fault (.undefinedOpcode 0x00 0x0000) ∧
      hostRun .ext Config.init [.writePC 0x0000] { State.reset with PC := 0x0300 } = .next State.reset :=
  ⟨rfl, rfl⟩

theorem witness_MemoryAccessSequence : decodedAt .core adcState = some (.adcImm 0x01) := by decide

theorem witness_CountdownKeepsResult : adcState.CR = 0 ∧ ∃ t, step adcState = .next t ∧ 1 ≤ t.CR :=
  ⟨by decide, _, rfl, by decide⟩

theorem witness_InstrStepIsItsTicks : adcState.CR = 0 ∧
    (∃ t, instrStep Config.profile adcState = .next (t, 2)) ∧
    step State.reset = .fault (.undefinedOpcode 0x00 0x0000) :=
  ⟨by decide, ⟨_, rfl⟩, rfl⟩

theorem witness_StepKeepsInvariant : adcState.Inv ∧ { adcState with CR := 6 }.Inv ∧
    ∃ t, stepIn .ext adcState = .next t ∧
      hostRun .ext Config.init [.tick, .reset] adcState = .next (construct Config.init t.mem) ∧
      Config.init.CR ≤ 6 :=
  ⟨by decide, by decide, _, rfl, rfl, by decide⟩

theorem witness_ResetRepeatsConstruction :
    hostSession .ext { Config.init with SP := 0xFD } adcState.mem [.writePC 0x0200, .tick, .writeSP 0x00] =
      .next { (construct { Config.init with SP := 0xFD } adcState.mem) with
        A := 0x01, SP := 0x00, PC := 0x0202, CR := 1 } := rfl

theorem witness_ResetMeetsInvariant : Memory.wf [(0x0000, 0x01), (0xFFFF, 0xFF)] ∧ Config.init.CR ≤ 6 := by decide

theorem witness_CanonicalMemory : ∀ a, Memory.read [(0xFFFF, 0x01)] a = Memory.read [(0xFFFF, 0x01)] a ∧
    Memory.wf [(0xFFFF, 0x01)] := fun _ => ⟨rfl, by decide⟩

theorem witness_ReadAfterWrite : (0x0000 : Word) ≠ 0xFFFF := by decide

theorem witness_RunsEndAtTheNamedAddress :
    ∃ t, runToward Config.profile 0x0202 2 0 adcState = .reached t 2 := ⟨_, rfl⟩

theorem witness_PlacedWordRunsNext : decodeTableWord 16 0x0169 = some (.adcImm 0x01) := by decide

theorem witness_DecimalFlag : (Instr.sbcAbs 0x0000).mnemonic = .adc ∨ (Instr.sbcAbs 0x0000).mnemonic = .sbc := by decide

end Sys2Proof.Tests
end

section
/-! SUPPORT. What an instruction does, said once for all rows: its mnemonic selects one shared operation and the effect
that operation runs, and the row's operand is one the operation can use. From it, the state each operation answers. -/

namespace Sys2Proof.Proofs

open Sys2Proof Sys2Proof.Machine Sys2Proof.Claim

/-- The shared operation that gives a mnemonic its meaning, with the effect it runs (R142, R201). -/
inductive Meaning where
  | readOnly (f : Byte → State → State)
  | shift (f : Byte → Bool → Shifted)
  | modify (f : Byte → Byte)
  | store (v : State → Byte)
  | implied (f : State → State)
  | jump (f : Word → State → State)
  | branch (cond : State → Bool)

/-- The meaning of each mnemonic; `exists_runsAs` ties it to `exec`. -/
def meaningOf : Mnemonic → Meaning
  | .adc => .readOnly adcEffect
  | .sbc => .readOnly sbcEffect
  | .and => .readOnly andEffect
  | .ora => .readOnly oraEffect
  | .cpa => .readOnly cpaEffect
  | .cpx => .readOnly cpxEffect
  | .cpy => .readOnly cpyEffect
  | .lda => .readOnly ldaEffect
  | .ldx => .readOnly ldxEffect
  | .ldy => .readOnly ldyEffect
  | .eor => .readOnly eorEffect
  | .bit => .readOnly bitFlags
  | .asl => .shift asl
  | .lsr => .shift lsr
  | .rol => .shift rol
  | .ror => .shift ror
  | .inc => .modify incByte
  | .dec => .modify decByte
  | .sta => .store State.A
  | .stx => .store State.X
  | .sty => .store State.Y
  | .tax => .implied fun s => setZN s.A (s.setX s.A)
  | .tay => .implied fun s => setZN s.A (s.setY s.A)
  | .txa => .implied fun s => setZN s.X (s.setA s.X)
  | .tya => .implied fun s => setZN s.Y (s.setA s.Y)
  | .tsx => .implied fun s => setZN s.SP (s.setX s.SP)
  | .txs => .implied fun s => s.setSP s.X
  | .inx => .implied fun s => setZN (incByte s.X) (s.setX (incByte s.X))
  | .iny => .implied fun s => setZN (incByte s.Y) (s.setY (incByte s.Y))
  | .dex => .implied fun s => setZN (decByte s.X) (s.setX (decByte s.X))
  | .dey => .implied fun s => setZN (decByte s.Y) (s.setY (decByte s.Y))
  | .clc => .implied (State.setC false)
  | .sec => .implied (State.setC true)
  | .cli => .implied (State.setI false)
  | .sei => .implied (State.setI true)
  | .cld => .implied (State.setD false)
  | .sed => .implied (State.setD true)
  | .clv => .implied (State.setV false)
  | .nop => .implied id
  | .rts => .implied rtsEffect
  | .pha => .implied fun s => s.push s.A
  | .pla => .implied plaEffect
  | .jmp => .jump fun a s => s.setPC a
  | .jsr => .jump jsrEffect
  | .bpl => .branch fun s => !s.N
  | .bmi => .branch fun s => s.N
  | .bvc => .branch fun s => !s.V
  | .bvs => .branch fun s => s.V
  | .bcc => .branch fun s => !s.C
  | .bcs => .branch fun s => s.C
  | .bne => .branch fun s => !s.Z
  | .beq => .branch fun s => s.Z

/-- Whether the mode's operand names an address. -/
def hasAddress : ModeArg → Bool
  | .acc | .imp | .imm _ => false
  | .zpp _ | .zpx _ | .zpy _ | .izx _ | .izy _ | .rel _ | .abs _ | .abx _ | .aby _ | .ind _ => true

/-- Whether the mode's operand can be written: the accumulator or an address (R95). -/
def hasPlace (arg : ModeArg) : Bool := hasAddress arg || arg == .acc

/-- Whether the mode's operand has a value (R94). -/
def hasValue (arg : ModeArg) : Bool := arg != .imp

/-- `exec i` is the shared operation of `meaning` at `base` cycles, on an operand that operation can use. -/
def RunsAs (i : Instr) (base : Nat) (meaning : Meaning) : Prop :=
  match meaning with
  | .readOnly f => (∀ s, exec i s = readOnly base i.arg f s) ∧ hasValue i.arg = true
  | .shift f => (∀ s, exec i s = shiftOp base i.arg f s) ∧ hasPlace i.arg = true
  | .modify f => (∀ s, exec i s = modify base i.arg f s) ∧ hasAddress i.arg = true
  | .store v => (∀ s, exec i s = store base i.arg v s) ∧ hasAddress i.arg = true
  | .implied f => (∀ s, exec i s = implied base f s) ∧ i.arg = .imp
  | .jump f => (∀ s, exec i s = jump base i.arg f s) ∧ hasAddress i.arg = true
  | .branch cond => ∃ d, (∀ s, exec i s = branch cond d s) ∧ i.arg = .rel d

/-- Every instruction runs the meaning of its mnemonic at some base cycles (R149), and with them it is the decode
table's entry at its opcode byte (R64). -/
theorem exists_runsAs (i : Instr) : ∃ base, RunsAs i base (meaningOf i.mnemonic) ∧
    lookup .ext i.opcode = some ⟨i.opcode, i.mnemonic, i.mode, base⟩ := by
  cases i with
  | bpl | bmi | bvc | bvs | bcc | bcs | bne | beq =>
    refine ⟨2, ⟨_, fun _ => rfl, rfl⟩, ?_⟩
    dsimp only [Instr.opcode, Instr.mnemonic, Instr.mode, Instr.arg, ModeArg.mode]
    decide
  | _ =>
    refine ⟨_, ⟨fun _ => rfl, rfl⟩, ?_⟩
    dsimp only [Instr.opcode, Instr.mnemonic, Instr.mode, Instr.arg, ModeArg.mode]
    decide

/-- The base cycles of the instruction's row, as the decode table has them (R64). -/
def baseOf (i : Instr) : Nat := ((lookup .ext i.opcode).map Entry.baseCycles).getD 0

theorem lookup_opcode (i : Instr) :
    lookup .ext i.opcode = some ⟨i.opcode, i.mnemonic, i.mode, baseOf i⟩ := by
  obtain ⟨base, -, hrow⟩ := exists_runsAs i
  simp [baseOf, hrow]

theorem runsAs_meaningOf (i : Instr) : RunsAs i (baseOf i) (meaningOf i.mnemonic) := by
  obtain ⟨base, hrun, hrow⟩ := exists_runsAs i
  simpa [baseOf, hrow] using hrun

/-- The statements' cost is the engine's, at the base cycles of the row (R144, R201). -/
theorem costOf_eq (i : Instr) (s : State) (extra : Nat) :
    costOf i s extra =
      cost (baseOf i) (i.mnemonic.opClass == .readOnly) (operandOf i s).crossed extra := by
  simp [costOf, lookup_opcode, Entry.isReadOnly, cost, b2n]

/-- The read-only class is that of the mnemonics whose meaning is a read-only operation (R69, R201). -/
theorem opClass_eq_readOnly_iff (m : Mnemonic) :
    m.opClass = .readOnly ↔ ∃ f, meaningOf m = .readOnly f := by
  cases m <;> simp [Mnemonic.opClass, meaningOf]

theorem costOf_of_readOnly {i : Instr} {f : Byte → State → State}
    (h : meaningOf i.mnemonic = .readOnly f) (s : State) :
    costOf i s 0 = cost (baseOf i) true (operandOf i s).crossed 0 := by
  have hclass : i.mnemonic.opClass = .readOnly := (opClass_eq_readOnly_iff _).mpr ⟨f, h⟩
  simp [costOf_eq, hclass]

theorem costOf_of_not_readOnly {i : Instr} (h : ∀ f, meaningOf i.mnemonic ≠ .readOnly f)
    (s : State) (extra : Nat) : costOf i s extra = baseOf i + extra := by
  have hclass : i.mnemonic.opClass ≠ .readOnly := fun hc =>
    ((opClass_eq_readOnly_iff _).mp hc).elim h
  simp [costOf_eq, hclass, cost, b2n]

theorem resolve_of_hasAddress {arg : ModeArg} (h : hasAddress arg = true) (s : State) :
    ∃ a, (resolve arg s).operand = .addr a := by
  cases arg <;> simp [hasAddress] at h <;> exact ⟨_, rfl⟩

theorem operandRead_of_hasValue {arg : ModeArg} (h : hasValue arg = true) (s : State) :
    ∃ m, operandRead (resolve arg s).operand s = .next m := by
  cases arg with
  | imp => simp [hasValue] at h
  | _ => exact ⟨_, rfl⟩

theorem operandWrite_of_hasPlace {arg : ModeArg} (h : hasPlace arg = true) (v : Byte) (s : State) :
    ∃ u, operandWrite (resolve arg s).operand v s = .next u := by
  cases arg with
  | imp | imm => simp [hasPlace, hasAddress] at h
  | _ => exact ⟨_, rfl⟩

theorem hasValue_of_hasPlace {arg : ModeArg} (h : hasPlace arg = true) : hasValue arg = true := by
  cases arg <;> simp_all [hasPlace, hasAddress, hasValue]

/-- The statements' operand value is what `OperandRead` answers past the instruction's bytes (R94). -/
theorem operandValue_eq_some {i : Instr} {s : State} {m : Byte} :
    operandValue i s = some m ↔ operandRead (operandOf i s).operand (past i s) = .next m := by
  unfold operandValue
  cases (operandOf i s).operand <;> simp [operandRead, past]

/-- The statements' written state is what `OperandWrite` answers (R95). -/
theorem written_eq_some {o : Operand} {v : Byte} {s u : State} :
    written o v s = some u ↔ operandWrite o v s = .next u := by
  cases o <;> simp [written, operandWrite, State.setA]

section Answers
variable {i : Instr}

theorem exec_of_readOnly {f : Byte → State → State} (h : meaningOf i.mnemonic = .readOnly f)
    (s : State) : ∃ m, operandValue i s = some m ∧
      exec i s = .next ((f m (past i s)).setCR (costOf i s 0 - 1)) := by
  obtain ⟨hexec, hvalue⟩ : RunsAs i _ (.readOnly f) := h ▸ runsAs_meaningOf i
  obtain ⟨m, hm⟩ := operandRead_of_hasValue hvalue (past i s)
  refine ⟨m, operandValue_eq_some.mpr hm, ?_⟩
  rw [hexec, costOf_of_readOnly h]
  exact readOnly_next.mpr ⟨m, hm, rfl⟩

theorem exec_of_shift {f : Byte → Bool → Shifted} (h : meaningOf i.mnemonic = .shift f)
    (s : State) : ∃ m u, operandValue i s = some m ∧
      written (operandOf i s).operand (f m s.C).result (past i s) = some u ∧
      exec i s = .next
        ((setZN (f m s.C).result (u.setC (f m s.C).carryOut)).setCR (costOf i s 0 - 1)) := by
  obtain ⟨hexec, hplace⟩ : RunsAs i _ (.shift f) := h ▸ runsAs_meaningOf i
  obtain ⟨m, hm⟩ := operandRead_of_hasValue (hasValue_of_hasPlace hplace) (past i s)
  obtain ⟨u, hu⟩ := operandWrite_of_hasPlace hplace (f m s.C).result (past i s)
  refine ⟨m, u, operandValue_eq_some.mpr hm, written_eq_some.mpr hu, ?_⟩
  rw [hexec, costOf_of_not_readOnly (by simp [h])]
  exact shiftOp_next.mpr ⟨m, u, hm, hu, rfl⟩

theorem exec_of_modify {f : Byte → Byte} (h : meaningOf i.mnemonic = .modify f) (s : State) :
    ∃ a, (operandOf i s).operand = .addr a ∧
      exec i s = .next
        ((setZN (f (s.read a)) ((past i s).write a (f (s.read a)))).setCR (costOf i s 0 - 1)) := by
  obtain ⟨hexec, haddr⟩ : RunsAs i _ (.modify f) := h ▸ runsAs_meaningOf i
  obtain ⟨a, ha⟩ := resolve_of_hasAddress haddr (past i s)
  refine ⟨a, ha, ?_⟩
  rw [hexec, costOf_of_not_readOnly (by simp [h])]
  exact modify_next.mpr ⟨s.read a, _, operandRead_next.mpr (.inr (.inr ⟨a, ha, rfl⟩)),
    operandWrite_next.mpr (.inr ⟨a, ha, rfl⟩), rfl⟩

theorem exec_of_store {v : State → Byte} (h : meaningOf i.mnemonic = .store v) (s : State) :
    ∃ a, (operandOf i s).operand = .addr a ∧
      exec i s = .next (((past i s).write a (v (past i s))).setCR (costOf i s 0 - 1)) := by
  obtain ⟨hexec, haddr⟩ : RunsAs i _ (.store v) := h ▸ runsAs_meaningOf i
  obtain ⟨a, ha⟩ := resolve_of_hasAddress haddr (past i s)
  refine ⟨a, ha, ?_⟩
  rw [hexec, costOf_of_not_readOnly (by simp [h])]
  exact store_next.mpr ⟨_, operandWrite_next.mpr (.inr ⟨a, ha, rfl⟩), rfl⟩

theorem exec_of_implied {f : State → State} (h : meaningOf i.mnemonic = .implied f) (s : State) :
    exec i s = .next ((f (past i s)).setCR (costOf i s 0 - 1)) := by
  obtain ⟨hexec, harg⟩ : RunsAs i _ (.implied f) := h ▸ runsAs_meaningOf i
  have hpast : past i s = s.advancePC 1 := by
    simp [past, Instr.size, Instr.mode, harg, ModeArg.mode, Mode.operandBytes]
  rw [hexec, implied_eq, hpast, costOf_of_not_readOnly (by simp [h]), Nat.add_zero]

theorem exec_of_jump {f : Word → State → State} (h : meaningOf i.mnemonic = .jump f)
    (s : State) : ∃ a, (operandOf i s).operand = .addr a ∧
      exec i s = .next ((f a (past i s)).setCR (costOf i s 0 - 1)) := by
  obtain ⟨hexec, haddr⟩ : RunsAs i _ (.jump f) := h ▸ runsAs_meaningOf i
  obtain ⟨a, ha⟩ := resolve_of_hasAddress haddr (past i s)
  refine ⟨a, ha, ?_⟩
  rw [hexec, costOf_of_not_readOnly (by simp [h])]
  exact jump_next.mpr ⟨a, ha, rfl⟩

theorem exec_of_branch {cond : State → Bool} (h : meaningOf i.mnemonic = .branch cond)
    (s : State) : ∃ d, i.arg = .rel d ∧ exec i s = .next
      (if cond (past i s) then
        ((past i s).setPC (s.PC + 2 + sext16 d)).setCR
          (2 + b2n (hi (s.PC + 2 + sext16 d) != hi (s.PC + 2)))
      else (past i s).setCR 1) := by
  obtain ⟨d, hexec, harg⟩ : RunsAs i _ (.branch cond) := h ▸ runsAs_meaningOf i
  have hpast : past i s = s.advancePC 2 := by
    simp [past, Instr.size, Instr.mode, harg, ModeArg.mode, Mode.operandBytes]
  refine ⟨d, harg, ?_⟩
  rw [hexec, branch_eq, hpast]

end Answers

theorem exec_completes (i : Instr) (s : State) : ∃ t, exec i s = .next t := by
  cases h : meaningOf i.mnemonic with
  | readOnly f => obtain ⟨m, -, ht⟩ := exec_of_readOnly h s; exact ⟨_, ht⟩
  | shift f => obtain ⟨m, u, -, -, ht⟩ := exec_of_shift h s; exact ⟨_, ht⟩
  | modify f => obtain ⟨a, -, ht⟩ := exec_of_modify h s; exact ⟨_, ht⟩
  | store v => obtain ⟨a, -, ht⟩ := exec_of_store h s; exact ⟨_, ht⟩
  | implied f => exact ⟨_, exec_of_implied h s⟩
  | jump f => obtain ⟨a, -, ht⟩ := exec_of_jump h s; exact ⟨_, ht⟩
  | branch cond => obtain ⟨d, -, ht⟩ := exec_of_branch h s; exact ⟨_, ht⟩

end Sys2Proof.Proofs
end

section
/-! PROOFS. The flag frame (O36): an effect that keeps a flag is run by an operation that keeps it. -/

namespace Sys2Proof.Proofs

open Sys2Proof Sys2Proof.Machine Sys2Proof.Claim

/-- The flag of a name. -/
def flagOf (n : FlagName) (s : State) : Bool :=
  match n with
  | .C => s.C
  | .Z => s.Z
  | .I => s.I
  | .D => s.D
  | .V => s.V
  | .N => s.N

section Setters
variable (n : FlagName) (s : State)

@[simp] theorem flagOf_setA (v : Byte) : flagOf n (s.setA v) = flagOf n s := by cases n <;> rfl
@[simp] theorem flagOf_setX (v : Byte) : flagOf n (s.setX v) = flagOf n s := by cases n <;> rfl
@[simp] theorem flagOf_setY (v : Byte) : flagOf n (s.setY v) = flagOf n s := by cases n <;> rfl
@[simp] theorem flagOf_setSP (v : Byte) : flagOf n (s.setSP v) = flagOf n s := by cases n <;> rfl
@[simp] theorem flagOf_setPC (v : Word) : flagOf n (s.setPC v) = flagOf n s := by cases n <;> rfl
@[simp] theorem flagOf_setCR (v : Nat) : flagOf n (s.setCR v) = flagOf n s := by cases n <;> rfl

@[simp] theorem flagOf_write (a : Word) (v : Byte) : flagOf n (s.write a v) = flagOf n s := by
  cases n <;> rfl

@[simp] theorem flagOf_past (i : Instr) : flagOf n (past i s) = flagOf n s := flagOf_setPC n s _

@[simp] theorem flagOf_push (v : Byte) : flagOf n (s.push v) = flagOf n s := by simp [State.push]

@[simp] theorem flagOf_pull : flagOf n s.pull = flagOf n s := flagOf_setSP n s _

end Setters

section FlagWriters
variable {n : FlagName} {s : State}

theorem flagOf_setC (h : n ∉ [.C]) (v : Bool) : flagOf n (s.setC v) = flagOf n s := by
  cases n <;> simp at h <;> rfl

theorem flagOf_setI (h : n ∉ [.I]) (v : Bool) : flagOf n (s.setI v) = flagOf n s := by
  cases n <;> simp at h <;> rfl

theorem flagOf_setD (h : n ∉ [.D]) (v : Bool) : flagOf n (s.setD v) = flagOf n s := by
  cases n <;> simp at h <;> rfl

theorem flagOf_setV (h : n ∉ [.V]) (v : Bool) : flagOf n (s.setV v) = flagOf n s := by
  cases n <;> simp at h <;> rfl

theorem flagOf_setZN (h : n ∉ [.Z, .N]) (v : Byte) : flagOf n (setZN v s) = flagOf n s := by
  cases n <;> simp at h <;> rfl

theorem flagOf_bitFlags (h : n ∉ [.Z, .N, .V]) (m : Byte) :
    flagOf n (bitFlags m s) = flagOf n s := by
  cases n <;> simp at h <;> rfl

theorem flagOf_compareFlags (h : n ∉ [.C, .Z, .N]) (rg m : Byte) :
    flagOf n (compareFlags rg m s) = flagOf n s := by
  cases n <;> simp at h <;> rfl

theorem flagOf_setZN_setC (h : n ∉ [.C, .Z, .N]) (v : Byte) (c : Bool) :
    flagOf n (setZN v (s.setC c)) = flagOf n s := by
  cases n <;> simp at h <;> rfl

theorem flagOf_storeSum (h : n ∉ [.C, .Z, .N, .V]) (r : Sum) :
    flagOf n (storeSum r s) = flagOf n s := by
  cases n <;> simp at h <;> rfl

end FlagWriters

/-- No place an operand names is a flag (R95). -/
theorem flagOf_written {n : FlagName} {o : Operand} {v : Byte} {s u : State}
    (h : written o v s = some u) : flagOf n u = flagOf n s := by
  obtain ⟨-, rfl⟩ | ⟨a, -, rfl⟩ := operandWrite_next.mp (written_eq_some.mp h)
  · exact flagOf_setA n s v
  · exact flagOf_write n s a v

/-- The effect that the operation of `meaning` runs leaves flag `n` as it was. -/
def KeepsFlag (n : FlagName) (meaning : Meaning) : Prop :=
  match meaning with
  | .readOnly f => ∀ m s, flagOf n (f m s) = flagOf n s
  | .shift _ => ∀ v c s, flagOf n (setZN v (s.setC c)) = flagOf n s
  | .modify _ => ∀ v s, flagOf n (setZN v s) = flagOf n s
  | .implied f => ∀ s, flagOf n (f s) = flagOf n s
  | .jump f => ∀ a s, flagOf n (f a s) = flagOf n s
  | .store _ | .branch _ => True

/-- Each mnemonic's effect keeps the flags its rule does not list (R22). -/
theorem meaningOf_keepsFlag {n : FlagName} {m : Mnemonic} (h : n ∉ flagsWritten m) :
    KeepsFlag n (meaningOf m) := by
  cases m with
  | adc | sbc => exact fun _ _ => flagOf_storeSum h _
  | cpa | cpx | cpy => exact fun _ _ => flagOf_compareFlags h _ _
  | bit => exact fun _ _ => flagOf_bitFlags h _
  | and | ora | eor | lda => exact fun _ _ => (flagOf_setZN h _).trans (flagOf_setA ..)
  | ldx => exact fun _ _ => (flagOf_setZN h _).trans (flagOf_setX ..)
  | ldy => exact fun _ _ => (flagOf_setZN h _).trans (flagOf_setY ..)
  | asl | lsr | rol | ror => exact fun _ _ _ => flagOf_setZN_setC h _ _
  | inc | dec => exact fun _ _ => flagOf_setZN h _
  | txa | tya => exact fun _ => (flagOf_setZN h _).trans (flagOf_setA ..)
  | tax | tsx | inx | dex => exact fun _ => (flagOf_setZN h _).trans (flagOf_setX ..)
  | tay | iny | dey => exact fun _ => (flagOf_setZN h _).trans (flagOf_setY ..)
  | txs => exact fun _ => flagOf_setSP ..
  | clc | sec => exact fun _ => flagOf_setC h _
  | cli | sei => exact fun _ => flagOf_setI h _
  | cld | sed => exact fun _ => flagOf_setD h _
  | clv => exact fun _ => flagOf_setV h _
  | nop => exact fun _ => rfl
  | pha => exact fun _ => flagOf_push ..
  | pla => exact fun s => (flagOf_setZN h _).trans (by simp)
  | rts => exact fun s => by simp [rtsEffect]
  | jmp => exact fun _ _ => flagOf_setPC ..
  | jsr => exact fun a s => by simp [jsrEffect]
  | sta | stx | sty | bpl | bmi | bvc | bvs | bcc | bcs | bne | beq => trivial

/-- An instruction that completes has kept the flags its rule does not list (R22). -/
theorem exec_keeps_flag {n : FlagName} {i : Instr} {s t : State} (ht : exec i s = .next t)
    (hn : n ∉ flagsWritten i.mnemonic) : flagOf n t = flagOf n s := by
  have hkeeps := meaningOf_keepsFlag hn
  cases h : meaningOf i.mnemonic with
  | readOnly f =>
    rw [h] at hkeeps
    obtain ⟨m, -, hexec⟩ := exec_of_readOnly h s
    cases hexec.symm.trans ht
    rw [flagOf_setCR, hkeeps, flagOf_past]
  | shift f =>
    rw [h] at hkeeps
    obtain ⟨m, u, -, hu, hexec⟩ := exec_of_shift h s
    cases hexec.symm.trans ht
    rw [flagOf_setCR, hkeeps, flagOf_written hu, flagOf_past]
  | modify f =>
    rw [h] at hkeeps
    obtain ⟨a, -, hexec⟩ := exec_of_modify h s
    cases hexec.symm.trans ht
    rw [flagOf_setCR, hkeeps, flagOf_write, flagOf_past]
  | store v =>
    obtain ⟨a, -, hexec⟩ := exec_of_store h s
    cases hexec.symm.trans ht
    rw [flagOf_setCR, flagOf_write, flagOf_past]
  | implied f =>
    rw [h] at hkeeps
    cases (exec_of_implied h s).symm.trans ht
    rw [flagOf_setCR, hkeeps, flagOf_past]
  | jump f =>
    rw [h] at hkeeps
    obtain ⟨a, -, hexec⟩ := exec_of_jump h s
    cases hexec.symm.trans ht
    rw [flagOf_setCR, hkeeps, flagOf_past]
  | branch cond =>
    obtain ⟨d, -, hexec⟩ := exec_of_branch h s
    cases hexec.symm.trans ht
    split <;> simp

/-- Settles O36: the flag frame of each of the six flags. -/
theorem flagFrame : Obligations.FlagFrame := by
  unfold Obligations.FlagFrame
  intro i s
  obtain ⟨t, ht⟩ := exec_completes i s
  exact ⟨t, ht, exec_keeps_flag (n := .C) ht, exec_keeps_flag (n := .Z) ht,
    exec_keeps_flag (n := .I) ht, exec_keeps_flag (n := .D) ht, exec_keeps_flag (n := .V) ht,
    exec_keeps_flag (n := .N) ht⟩

end Sys2Proof.Proofs
end

section
/-! PROOFS. The result of a CORE instruction in Z and N (O40), by the three kinds of result: the accumulator, a
difference, and what a shift leaves in its operand. -/

namespace Sys2Proof.Proofs

open Sys2Proof Sys2Proof.Machine Sys2Proof.Claim

/-- No byte is zero and has bit 7. -/
theorem not_zero_and_bit_seven (r : Byte) : ¬((r == 0) = true ∧ bit r 7 = true) := by
  rintro ⟨hzero, hbit⟩
  rw [beq_iff_eq.mp hzero] at hbit
  exact absurd hbit (by decide)

/-- `i` run from `s` completes, with a result that Z and N describe (R23). -/
def ResultDescribed (i : Instr) (s : State) : Prop :=
  ∃ t r, exec i s = .next t ∧ resultByte i s t = some r ∧ t.Z = (r == 0) ∧ t.N = bit r 7

/-- The result is the new accumulator. -/
theorem resultDescribed_of_accumulator {i : Instr} {f : Byte → State → State}
    (h : meaningOf i.mnemonic = .readOnly f)
    (hf : ∀ m s, (f m s).Z = ((f m s).A == 0) ∧ (f m s).N = bit (f m s).A 7)
    (hresult : ∀ s t, resultByte i s t = some t.A) (s : State) : ResultDescribed i s := by
  obtain ⟨m, -, hexec⟩ := exec_of_readOnly h s
  obtain ⟨hZ, hN⟩ := hf m (past i s)
  exact ⟨_, _, hexec, hresult s _, hZ, hN⟩

/-- The result of a compare is the difference of the compared register and the operand (R120). -/
theorem resultDescribed_of_compare {i : Instr} {rg : State → Byte}
    (h : meaningOf i.mnemonic = .readOnly fun m s => compareFlags (rg s) m s)
    (hresult : ∀ s t m, operandValue i s = some m → resultByte i s t = some (rg (past i s) - m))
    (s : State) : ResultDescribed i s := by
  obtain ⟨m, hm, hexec⟩ := exec_of_readOnly h s
  have hzero : (rg (past i s) == m) = (rg (past i s) - m == 0) := by
    rw [Bool.eq_iff_iff, beq_iff_eq, beq_iff_eq, sub_eq_zero]
  exact ⟨_, _, hexec, hresult s _ m hm, hzero, rfl⟩

/-- The result of a shift is the byte it leaves in its place (R135). -/
theorem resultDescribed_of_shift {i : Instr} {f : Byte → Bool → Shifted}
    (h : meaningOf i.mnemonic = .shift f)
    (hacc : ∀ s t, (operandOf i s).operand = .acc → resultByte i s t = some t.A)
    (haddr : ∀ s t a, (operandOf i s).operand = .addr a → resultByte i s t = some (t.read a))
    (s : State) : ResultDescribed i s := by
  obtain ⟨m, u, -, hu, hexec⟩ := exec_of_shift h s
  refine ⟨_, (f m s.C).result, hexec, ?_, rfl, rfl⟩
  obtain ⟨ho, rfl⟩ | ⟨a, ho, rfl⟩ := operandWrite_next.mp (written_eq_some.mp hu)
  · simp [hacc s _ ho]
  · simp [haddr s _ a ho, State.read_write]

/-- Every CORE instruction ends by `SetZN` of its result (R23). -/
theorem resultDescribed_of_isCore {i : Instr} (hcore : i.mnemonic.isCore = true) (s : State) :
    ResultDescribed i s := by
  cases hm : i.mnemonic with
  | adc | sbc | and | ora =>
    exact resultDescribed_of_accumulator (by rw [hm]; rfl) (fun _ _ => ⟨rfl, rfl⟩)
      (fun s t => by simp [resultByte, hm]) s
  | cpa =>
    exact resultDescribed_of_compare (rg := State.A) (by rw [hm]; rfl)
      (fun s t m hv => by simp [resultByte, hm, comparedRegister, hv, past]) s
  | cpx =>
    exact resultDescribed_of_compare (rg := State.X) (by rw [hm]; rfl)
      (fun s t m hv => by simp [resultByte, hm, comparedRegister, hv, past]) s
  | cpy =>
    exact resultDescribed_of_compare (rg := State.Y) (by rw [hm]; rfl)
      (fun s t m hv => by simp [resultByte, hm, comparedRegister, hv, past]) s
  | asl | lsr | rol | ror =>
    exact resultDescribed_of_shift (by rw [hm]; rfl) (fun s t ho => by simp [resultByte, hm, ho])
      (fun s t a ho => by simp [resultByte, hm, ho]) s
  | _ => simp [hm, Mnemonic.isCore] at hcore

/-- Settles O40: `SetZN`, the result of every CORE instruction, and the pairs that the host and reset can make. -/
theorem coreResultSetsZeroNegative : Obligations.CoreResultSetsZeroNegative := by
  unfold Obligations.CoreResultSetsZeroNegative
  refine ⟨fun _ _ => rfl, fun i s hcore => ?_, fun _ _ _ _ _ => ⟨rfl, _, rfl, rfl, rfl⟩⟩
  obtain ⟨t, r, hexec, hresult, hZ, hN⟩ := resultDescribed_of_isCore hcore s
  refine ⟨t, r, hexec, hresult, hZ, hN, ?_⟩
  rw [hZ, hN]
  exact not_zero_and_bit_seven r

end Sys2Proof.Proofs
end

section
/-! PROOFS. The host's write accessors (O57). -/

namespace Sys2Proof.Proofs

open Sys2Proof Sys2Proof.Machine

/-- Settles O57: each accessor is the setter of the element it names (R30). -/
theorem hostWritesOneElement : Obligations.HostWritesOneElement := by
  unfold Obligations.HostWritesOneElement
  intro p init s v w b
  exact ⟨rfl, rfl, rfl, rfl, rfl, rfl, rfl, rfl, rfl, rfl, rfl⟩

end Sys2Proof.Proofs
end

section
/-! PROOFS. The memory contract (O55). -/

namespace Sys2Proof.Proofs

open Sys2Proof Sys2Proof.Machine

/-- Settles O55: the read-after-write law at the address written and at every other one (R42). -/
theorem readAfterWrite : Obligations.ReadAfterWrite := by
  unfold Obligations.ReadAfterWrite
  intro s a v
  refine ⟨?_, fun b hb => ?_, rfl⟩
  · rw [State.read_write, if_pos rfl]
  · rw [State.read_write, if_neg hb]

end Sys2Proof.Proofs
end

section
/-! SUPPORT. What a decoded instruction says of the bytes it was decoded from: its opcode is the first, its operand is
assembled from the ones its mode has, and the profile admits it. -/

namespace Sys2Proof.Proofs

open Sys2Proof Sys2Proof.Machine

/-- The operand that a mode assembles from the two bytes after the opcode (R45, R63). -/
def assembled (m : Mode) (b1 b2 : Byte) : ModeArg :=
  match m with
  | .acc => .acc
  | .imp => .imp
  | .imm => .imm b1
  | .zpp => .zpp b1
  | .zpx => .zpx b1
  | .zpy => .zpy b1
  | .izx => .izx b1
  | .izy => .izy b1
  | .rel => .rel b1
  | .abs => .abs (w16 b2 b1)
  | .abx => .abx (w16 b2 b1)
  | .aby => .aby (w16 b2 b1)
  | .ind => .ind (w16 b2 b1)

/-- `i` is an instruction with the bytes `op`, `b1`, `b2`, as far as its mode has them. -/
def HasBytes (i : Instr) (op b1 b2 : Byte) : Prop :=
  i.opcode = op ∧ i.arg = assembled i.mode b1 b2

/-- Every row of the decoder has its own opcode byte, and reads the operand its mode assembles (R61, R64). -/
theorem formatOf_hasBytes {op : Byte} {f : Format} (h : formatOf op = some f) (b1 b2 : Byte) :
    HasBytes (f.read b1 b2) op b1 b2 := by
  unfold formatOf at h
  split at h <;> [unfold format0x1x at h; unfold format2x3x at h; unfold format4x5x at h;
    unfold format6x7x at h; unfold format8x9x at h; unfold formatAxBx at h;
    unfold formatCxDx at h; unfold formatExFx at h]
  all_goals
    split at h <;> cases h <;> exact ⟨(BitVec.eq_of_toNat_eq ‹_›).symm, rfl⟩

theorem decodeAt_eq_some {p : Profile} {op b1 b2 : Byte} {i : Instr}
    (h : decodeAt p op b1 b2 = some i) : i.wellFormed p = true ∧ HasBytes i op b1 b2 := by
  unfold decodeAt at h
  split at h
  · cases h
  · next f hf =>
    split at h
    · next hwf =>
      cases h
      exact ⟨hwf, formatOf_hasBytes hf b1 b2⟩
    · cases h

/-- In a profile that admits the instruction, the table's entry at its opcode byte is the one of profile EXT. -/
theorem lookup_of_wellFormed {p : Profile} {i : Instr} (h : i.wellFormed p = true) :
    lookup p i.opcode = some ⟨i.opcode, i.mnemonic, i.mode, baseOf i⟩ := by
  obtain ⟨-, before, after, hrows, hbefore⟩ :=
    List.find?_eq_some_iff_append.mp (lookup_opcode i)
  refine List.find?_eq_some_iff_append.mpr
    ⟨by simpa [Instr.wellFormed] using h, before, after, hrows, fun e he => ?_⟩
  have hne : e.opcode ≠ i.opcode := by simpa [Profile.admits] using hbefore e he
  simp [hne]

end Sys2Proof.Proofs
end

section
/-! SUPPORT. The spec's pseudocode with its access log: what fetching, resolving, reading and writing do to a state and
add to the log. -/

namespace Sys2Proof.Proofs

open Sys2Proof Sys2Proof.Machine Sys2Proof.Claim

/-- `s` with its first `k` instruction bytes fetched (R80). -/
def fetched (k : Nat) (s : State) : Logged :=
  ⟨s.advancePC k, (List.range k).map fun j => .read (s.PC + BitVec.ofNat 16 j)⟩

theorem fetch8_fetched (k : Nat) (s : State) :
    fetch8 (fetched k s) = (s.read (s.PC + BitVec.ofNat 16 k), fetched (k + 1) s) := by
  simp [fetch8, memRead, Logged.onState, fetched, List.range_succ, State.advancePC, State.setPC,
    State.read, BitVec.ofNat_add, BitVec.add_assoc]

theorem fetch16_fetched (k : Nat) (s : State) :
    fetch16 (fetched k s) =
      (w16 (s.read (s.PC + BitVec.ofNat 16 (k + 1))) (s.read (s.PC + BitVec.ofNat 16 k)),
        fetched (k + 2) s) := by
  rw [fetch16, fetch8_fetched, fetch8_fetched]

theorem readZeroPageWord_eq (b : Byte) (t : Logged) :
    readZeroPageWord b t = (zeroPageWord b t.state,
      ⟨t.state, t.log ++ [.read (zext16 b), .read (zext16 (b + 1))]⟩) := by
  simp [readZeroPageWord, memRead, zeroPageWord]

theorem readSamePageWord_eq (w : Word) (t : Logged) :
    readSamePageWord w t = (samePageWord w t.state,
      ⟨t.state, t.log ++ [.read w, .read (w16 (hi w) (lo w + 1))]⟩) := by
  simp [readSamePageWord, memRead, samePageWord]

/-- Resolving the operand of an instruction whose opcode is fetched: the rest of its bytes are fetched, then the pointer
is read (R51, R81). -/
theorem resolveMode_fetched (m : Mode) (s : State) {arg : ModeArg}
    (h : arg = assembled m (s.read (s.PC + 1)) (s.read (s.PC + 2))) :
    resolveMode m (fetched 1 s) =
      (resolve arg (pastBytes arg s),
        ⟨pastBytes arg s, (fetched (1 + m.operandBytes) s).log ++ pointerReads arg s⟩) := by
  subst h
  cases m with
  | acc | imp => rfl
  | imm | zpp | zpx | zpy | rel => simp only [resolveMode, fetch8_fetched]; rfl
  | abs | abx | aby => simp only [resolveMode, fetch16_fetched]; rfl
  | izx | izy => simp only [resolveMode, fetch8_fetched, readZeroPageWord_eq]; rfl
  | ind => simp only [resolveMode, fetch16_fetched, readSamePageWord_eq]; rfl

/-- The accesses of reading an operand: one if it is an address (R94). -/
def readsOf (o : Operand) : List Access :=
  match o with
  | .addr a => [.read a]
  | .acc | .imm _ | .implied => []

/-- The accesses of the write to an operand that led to `t`: one if it is an address (R95). -/
def writesOf (o : Operand) (t : State) : List Access :=
  match o with
  | .addr a => [.write a (t.read a)]
  | .acc | .imm _ | .implied => []

theorem writesOf_addr_write (a : Word) (v : Byte) (s : State) :
    writesOf (.addr a) (s.write a v) = [.write a v] := by
  simp [writesOf, State.read_write]

section Through
variable {o : Operand} {s u : State} {m v : Byte}

theorem readThrough_of_operandRead (h : operandRead o s = .next m) (log : List Access) :
    readThrough o ⟨s, log⟩ = some (m, ⟨s, log ++ readsOf o⟩) := by
  obtain ⟨rfl, rfl⟩ | rfl | ⟨a, rfl, rfl⟩ := operandRead_next.mp h
  · simp [readThrough, readsOf]
  · simp [readThrough, readsOf]
  · rfl

theorem writeThrough_of_operandWrite (h : operandWrite o v s = .next u) (log : List Access) :
    writeThrough o v ⟨s, log⟩ = some ⟨u, log ++ writesOf o u⟩ := by
  obtain ⟨rfl, rfl⟩ | ⟨a, rfl, rfl⟩ := operandWrite_next.mp h
  · simp [writeThrough, writesOf, Logged.onState]
  · rw [writesOf_addr_write]; rfl

theorem readEffect_eq (f : Byte → State → State) (h : operandRead o s = .next m)
    (log : List Access) : readEffect f o ⟨s, log⟩ = some (0, ⟨f m s, log ++ readsOf o⟩) := by
  rw [readEffect, readThrough_of_operandRead h]
  rfl

theorem shiftEffect_eq {f : Byte → Bool → Shifted} (hread : operandRead o s = .next m)
    (hwrite : operandWrite o (f m s.C).result s = .next u) (log : List Access) :
    shiftEffect f o ⟨s, log⟩ =
      some (0, ⟨setZN (f m s.C).result (u.setC (f m s.C).carryOut),
        log ++ (readsOf o ++ writesOf o u)⟩) := by
  simp [shiftEffect, readThrough_of_operandRead hread, writeThrough_of_operandWrite hwrite,
    Logged.onState]

theorem modifyEffect_eq {f : Byte → Byte} (hread : operandRead o s = .next m)
    (hwrite : operandWrite o (f m) s = .next u) (log : List Access) :
    modifyEffect f o ⟨s, log⟩ =
      some (0, ⟨setZN (f m) u, log ++ (readsOf o ++ writesOf o u)⟩) := by
  simp [modifyEffect, readThrough_of_operandRead hread, writeThrough_of_operandWrite hwrite,
    Logged.onState]

theorem storeEffect_eq {f : State → Byte} (h : operandWrite o (f s) s = .next u)
    (log : List Access) : storeEffect f o ⟨s, log⟩ = some (0, ⟨u, log ++ writesOf o u⟩) := by
  rw [storeEffect, writeThrough_of_operandWrite h]
  rfl

end Through

theorem branchEffect_eq {r : Resolved} {a : Word} (h : r.operand = .addr a) (cond : Bool)
    (t : Logged) : branchEffect cond r t =
      some (if cond then (1 + b2n r.crossed, t.onState (State.setPC a)) else (0, t)) := by
  rw [branchEffect, h]

theorem pushLogged_eq (v : Byte) (t : Logged) : pushLogged v t =
    ⟨t.state.push v, t.log ++ [.write (stackAddress t.state.SP) v]⟩ := rfl

theorem pullLogged_eq (t : Logged) : pullLogged t = (t.state.pulled,
    ⟨t.state.pull, t.log ++ [.read (stackAddress (t.state.SP + 1))]⟩) := rfl

end Sys2Proof.Proofs
end

section
/-! PROOFS. The access log of an Idle tick (O49): fetching and resolving, then the effect, by the shared operation that
the mnemonic selects. -/

namespace Sys2Proof.Proofs

open Sys2Proof Sys2Proof.Machine Sys2Proof.Claim

/-- The stack accesses of a mnemonic run from `s` to `t` (R264 to R267, R269). -/
def stackAccesses (m : Mnemonic) (s t : State) : List Access :=
  match m with
  | .pha => [.write (stackAddress s.SP) (t.read (stackAddress s.SP))]
  | .jsr => [.write (stackAddress s.SP) (t.read (stackAddress s.SP)),
      .write (stackAddress (s.SP - 1)) (t.read (stackAddress (s.SP - 1)))]
  | .pla => [.read (stackAddress (s.SP + 1))]
  | .rts => [.read (stackAddress (s.SP + 1)), .read (stackAddress (s.SP + 2))]
  | _ => []

/-- The accesses of a meaning whose operand is `o` and whose stack accesses are `stack`, run to `t` (R51). -/
def Meaning.accesses (meaning : Meaning) (o : Operand) (stack : List Access) (t : State) :
    List Access :=
  match meaning with
  | .readOnly _ => readsOf o
  | .shift _ | .modify _ => readsOf o ++ writesOf o t
  | .store _ => writesOf o t
  | .implied _ | .jump _ => stack
  | .branch _ => []

/-- The statement's accesses of an effect are those of its meaning. -/
theorem effectAccesses_eq (i : Instr) (s t : State) :
    effectAccesses i s t = (meaningOf i.mnemonic).accesses (operandOf i s).operand
      (stackAccesses i.mnemonic s t) t := by
  unfold effectAccesses
  generalize i.mnemonic = m
  generalize (operandOf i s).operand = o
  cases m <;> cases o <;> rfl

/-- The pseudocode's effect of mnemonic `m` is the logged form of the operation of `meaning`. -/
def RunsLogged (m : Mnemonic) (meaning : Meaning) : Prop :=
  match meaning with
  | .readOnly f => ∀ r t, effectOf m r t = readEffect f r.operand t
  | .shift f => ∀ r t, effectOf m r t = shiftEffect f r.operand t
  | .modify f => ∀ r t, effectOf m r t = modifyEffect f r.operand t
  | .store v => ∀ r t, effectOf m r t = storeEffect v r.operand t
  | .implied f => ∀ r t, effectOf m r t =
      some (0, ⟨f t.state, t.log ++ stackAccesses m t.state (f t.state)⟩)
  | .jump f => ∀ r t a, r.operand = .addr a → effectOf m r t =
      some (0, ⟨f a t.state, t.log ++ stackAccesses m t.state (f a t.state)⟩)
  | .branch cond => ∀ r t, effectOf m r t = branchEffect (cond t.state) r t

theorem stackAddress_inj {p q : Byte} : stackAddress p = stackAddress q ↔ p = q := by
  refine ⟨fun h => ?_, fun h => h ▸ rfl⟩
  have hlow := congrArg (BitVec.setWidth 8) h
  simpa [stackAddress, zext16] using hlow

/-- The two bytes that JSR pushes lie at different addresses, so memory holds both afterwards (R264, R269). -/
theorem jsrLogged_eq (a : Word) (t : Logged) :
    jsrLogged (.addr a) t = some (0, ⟨jsrEffect a t.state,
      t.log ++ stackAccesses .jsr t.state (jsrEffect a t.state)⟩) := by
  have hne : stackAddress t.state.SP ≠ stackAddress (t.state.SP - 1) := fun h => by
    have := stackAddress_inj.mp h
    bv_omega
  simp only [jsrLogged, jsrEffect, stackAccesses, pushLogged_eq, Logged.onState, State.push_SP,
    State.setPC_read, State.push_read, if_neg hne, if_true, List.append_assoc, List.cons_append,
    List.nil_append]

theorem runsLogged_meaningOf (m : Mnemonic) : RunsLogged m (meaningOf m) := by
  cases m with
  | jmp => exact fun r t a ha => by simp [effectOf, jmpEffect, ha, Logged.onState, stackAccesses]
  | jsr => exact fun r t a ha => by rw [← jsrLogged_eq, ← ha]; rfl
  | rts =>
    exact fun r t => by
      simp [effectOf, rtsLogged, rtsEffect, pullLogged_eq, Logged.onState, stackAccesses,
        BitVec.add_assoc]
  | pha =>
    exact fun r t => by simp [effectOf, pushLogged_eq, stackAccesses, State.push_read]
  | pla => exact fun _ _ => rfl
  | tax | tay | txa | tya | tsx | txs | inx | iny | dex | dey | clc | sec | cli | sei | cld | sed
  | clv | nop =>
    exact fun r t => by simp [effectOf, registerEffect, Logged.onState, stackAccesses]
  | _ => exact fun _ _ => rfl

theorem baseOf_of_branch {i : Instr} {cond : State → Bool}
    (h : meaningOf i.mnemonic = .branch cond) : baseOf i = 2 := by
  cases i <;> cases h <;> rfl

/-- What a branch answers, by its resolved operand and its cost (R201, R254). -/
theorem exec_of_branch_target {i : Instr} {cond : State → Bool}
    (h : meaningOf i.mnemonic = .branch cond) (s : State) :
    ∃ a, (operandOf i s).operand = .addr a ∧ exec i s = .next
      (if cond (past i s) then
        ((past i s).setPC a).setCR (costOf i s (1 + b2n (operandOf i s).crossed) - 1)
      else (past i s).setCR (costOf i s 0 - 1)) := by
  obtain ⟨d, harg, hexec⟩ := exec_of_branch h s
  have hpast : (past i s).PC = s.PC + 2 := by
    simp [past, Instr.size, Instr.mode, harg, ModeArg.mode, Mode.operandBytes]
  have hcost (extra : Nat) : costOf i s (1 + extra) - 1 = 2 + extra := by
    rw [costOf_of_not_readOnly (by simp [h]), baseOf_of_branch h]
    omega
  refine ⟨s.PC + 2 + sext16 d, by simp [operandOf, harg, resolve, hpast], ?_⟩
  rw [hexec, hcost, costOf_of_not_readOnly (by simp [h]), baseOf_of_branch h]
  simp [operandOf, harg, resolve, hpast]

/-- The effect of `i` in the pseudocode, on its operand in the state past its bytes, makes the accesses of R51 after those
in `log`, and leaves what `exec i` leaves. -/
theorem effectOf_logged (i : Instr) (s : State) (log : List Access) :
    ∃ extra u, effectOf i.mnemonic (operandOf i s) ⟨past i s, log⟩ =
        some (extra, ⟨u, log ++ effectAccesses i s u⟩) ∧
      exec i s = .next (u.setCR (costOf i s extra - 1)) := by
  have hlogged := runsLogged_meaningOf i.mnemonic
  obtain ⟨meaning, h⟩ : ∃ meaning, meaningOf i.mnemonic = meaning := ⟨_, rfl⟩
  simp only [effectAccesses_eq, h] at hlogged ⊢
  cases meaning with
  | readOnly f =>
    obtain ⟨m, hm, hexec⟩ := exec_of_readOnly h s
    exact ⟨0, _, (hlogged ..).trans (readEffect_eq f (operandValue_eq_some.mp hm) log), hexec⟩
  | shift f =>
    obtain ⟨m, u, hm, hu, hexec⟩ := exec_of_shift h s
    exact ⟨0, _, (hlogged ..).trans (shiftEffect_eq (operandValue_eq_some.mp hm)
      (written_eq_some.mp hu) log), hexec⟩
  | modify f =>
    obtain ⟨a, ha, hexec⟩ := exec_of_modify h s
    refine ⟨0, _, (hlogged ..).trans ?_, hexec⟩
    rw [ha]
    exact modifyEffect_eq (o := .addr a) rfl rfl log
  | store v =>
    obtain ⟨a, ha, hexec⟩ := exec_of_store h s
    refine ⟨0, _, (hlogged ..).trans ?_, hexec⟩
    rw [ha]
    exact storeEffect_eq (o := .addr a) rfl log
  | implied f =>
    exact ⟨0, _, hlogged .., exec_of_implied h s⟩
  | jump f =>
    obtain ⟨a, ha, hexec⟩ := exec_of_jump h s
    exact ⟨0, _, hlogged _ _ a ha, hexec⟩
  | branch cond =>
    obtain ⟨a, ha, hexec⟩ := exec_of_branch_target h s
    have heffect := (hlogged (operandOf i s) ⟨past i s, log⟩).trans (branchEffect_eq ha _ _)
    cases hc : cond (past i s) with
    | true =>
      refine ⟨_, (past i s).setPC a, ?_, by rw [hexec, hc, if_pos rfl]⟩
      simp [heffect, hc, Meaning.accesses, Logged.onState]
    | false =>
      refine ⟨0, past i s, ?_, by simp [hexec, hc]⟩
      simp [heffect, hc, Meaning.accesses]

/-- The Idle tick of the pseudocode at an opcode byte with an entry, from what its resolver and effect answer (R142). -/
theorem idleTickLogged_of_entry {p : Profile} {s : State} {e : Entry} {r : Resolved × Logged}
    {x : Nat × Logged} (hentry : lookup p (s.read s.PC) = some e)
    (hresolve : resolveMode e.mode (fetched 1 s) = r)
    (heffect : effectOf e.mnemonic r.1 r.2 = some x) :
    idleTickLogged p s = .next
      (x.2.onState (State.setCR (cost e.baseCycles e.isReadOnly r.1.crossed x.1 - 1))) := by
  have hopcode : (memRead s.PC ⟨s, []⟩).2.onState (fun s => s.setPC (s.PC + 1)) = fetched 1 s := by
    simp [memRead, Logged.onState, fetched, State.advancePC]
  have hbyte : (memRead s.PC ⟨s, []⟩).1 = s.read s.PC := rfl
  simp only [idleTickLogged, hopcode, hbyte, hentry, hresolve, heffect]

/-- The Idle tick of the pseudocode on a decoded instruction: the accesses of R51, and the state that `exec` answers. -/
theorem idleTickLogged_of_decoded {p : Profile} {s : State} {i : Instr}
    (h : decodedAt p s = some i) :
    ∃ t, exec i s = .next t ∧ idleTickLogged p s = .next ⟨t, tickAccesses i s t⟩ := by
  obtain ⟨hwf, hopcode, harg⟩ := decodeAt_eq_some h
  obtain ⟨extra, u, heffect, hexec⟩ := effectOf_logged i s
    ((fetched i.size s).log ++ pointerReads i.arg s)
  refine ⟨_, hexec, ?_⟩
  rw [idleTickLogged_of_entry (hopcode ▸ lookup_of_wellFormed hwf)
    (resolveMode_fetched i.mode s harg) heffect, costOf_eq]
  rfl

/-- Settles O49: the log of the Idle tick of a decoded instruction (R51). -/
theorem memoryAccessSequence : Obligations.MemoryAccessSequence := by
  unfold Obligations.MemoryAccessSequence
  intro p s i h
  obtain ⟨t, -, hlog⟩ := idleTickLogged_of_decoded h
  exact ⟨t, hlog⟩

end Sys2Proof.Proofs
end

section
/-! SUPPORT. The decode table and the decoder define the same opcode bytes in each profile, and which bytes those are. -/

namespace Sys2Proof.Proofs

open Sys2Proof Sys2Proof.Machine Sys2Proof.Claim

/-- No two rows share an opcode byte: the lookup at a row's opcode finds that row (R64, R65). -/
theorem lookup_opcode_of_mem : ∀ e ∈ instructionSet, lookup .ext e.opcode = some e := by decide +kernel

/-- The decoder has a format for every row of the decode table (R64). -/
theorem formatOf_isSome_of_mem : ∀ e ∈ instructionSet, (formatOf e.opcode).isSome := by decide +kernel

theorem lookup_eq_some {p : Profile} {op : Byte} {e : Entry} (h : lookup p op = some e) :
    e ∈ instructionSet ∧ e.opcode = op ∧ p.admits e.mnemonic = true := by
  have hmatch : e.opcode = op ∧ p.admits e.mnemonic = true := by simpa using List.find?_some h
  exact ⟨List.mem_of_find?_eq_some h, hmatch⟩

/-- The opcode byte of a table entry the profile admits decodes, whatever bytes follow (R64). -/
theorem decodeAt_of_lookup {p : Profile} {op : Byte} {e : Entry} (h : lookup p op = some e)
    (b1 b2 : Byte) : ∃ i, decodeAt p op b1 b2 = some i := by
  obtain ⟨hmem, rfl, hadmits⟩ := lookup_eq_some h
  obtain ⟨f, hf⟩ := Option.isSome_iff_exists.mp (formatOf_isSome_of_mem e hmem)
  obtain ⟨hopcode, -⟩ := formatOf_hasBytes hf b1 b2
  have hentry := lookup_opcode (f.read b1 b2)
  rw [hopcode, lookup_opcode_of_mem e hmem] at hentry
  have hmnemonic : e.mnemonic = (f.read b1 b2).mnemonic :=
    congrArg Entry.mnemonic (Option.some.inj hentry)
  have hwf : (f.read b1 b2).wellFormed p = true := by rwa [Instr.wellFormed, ← hmnemonic]
  exact ⟨f.read b1 b2, by simp [decodeAt, hf, hwf]⟩

/-- The decoder rejects exactly the bytes without a table entry, whatever bytes follow (R64, R70, R268). -/
theorem decodeAt_eq_none_iff (p : Profile) (op b1 b2 : Byte) :
    decodeAt p op b1 b2 = none ↔ lookup p op = none := by
  constructor
  · intro hdecode
    cases hlookup : lookup p op with
    | none => rfl
    | some e =>
      obtain ⟨i, hi⟩ := decodeAt_of_lookup hlookup b1 b2
      cases hdecode.symm.trans hi
  · intro hlookup
    cases hdecode : decodeAt p op b1 b2 with
    | none => rfl
    | some i =>
      obtain ⟨hwf, hopcode, -⟩ := decodeAt_eq_some hdecode
      cases hlookup.symm.trans (hopcode ▸ lookup_of_wellFormed hwf)

/-- R70's list is the bytes without CORE entry in ascending order. -/
theorem coreUndefined_eq_filter : coreUndefined =
    ((List.range 256).map (BitVec.ofNat 8)).filter fun op => (lookup .core op).isNone := by
  decide +kernel

theorem lookup_core_eq_none_iff (op : Byte) : lookup .core op = none ↔ op ∈ coreUndefined := by
  have hbyte : ∃ n < 256, BitVec.ofNat 8 n = op := ⟨op.toNat, op.isLt, by simp⟩
  simp [coreUndefined_eq_filter, hbyte]

end Sys2Proof.Proofs
end

section
/-! Settles O4: which opcode bytes are undefined, in each profile. -/

namespace Sys2Proof.Proofs

open Sys2Proof Sys2Proof.Machine Sys2Proof.Claim

/-- The Idle tick at a byte without table entry raises the one exception (R70, R161, R268). -/
theorem stepIn_of_lookup_none {p : Profile} {s : State} (hidle : s.CR = 0)
    (h : lookup p (s.read s.PC) = none) :
    stepIn p s = .fault (.undefinedOpcode (s.read s.PC) s.PC) :=
  (tick_idle hidle).trans (idleTick_of_undefined ((decodeAt_eq_none_iff ..).mpr h))

/-- Settles O4: the undefined bytes of R70 and R268 (R268 names BRK, PHP, PLP and RTI), and their fault. -/
theorem undefinedOpcodes : Obligations.UndefinedOpcodes := by
  unfold Obligations.UndefinedOpcodes
  refine ⟨fun op b1 b2 => ⟨lookup_core_eq_none_iff op, ?_⟩, rfl, by decide +kernel, by decide,
    decodeAt_eq_none_iff .ext, fun _ _ => stepIn_of_lookup_none⟩
  exact (decodeAt_eq_none_iff ..).trans (lookup_core_eq_none_iff op)

end Sys2Proof.Proofs
end

section
/-! SUPPORT. The bytes and words of the addressing modes as numbers, and fetching operand bytes with an access log that is
not empty. -/

namespace Sys2Proof.Proofs

open Sys2Proof Sys2Proof.Machine

theorem zext16_eq (b : Byte) : zext16 b = BitVec.ofNat 16 b.toNat := (BitVec.ofNat_toNat 16 b).symm

/-- The two bytes of a little-endian pair do not overlap (R45). -/
theorem w16_toNat (h l : Byte) : (w16 h l).toNat = l.toNat + 256 * h.toNat := by
  have hh := h.isLt
  have hshift : h.toNat <<< 8 % 65536 = 256 * h.toNat := by
    rw [Nat.shiftLeft_eq]
    omega
  have hdisjoint : 256 * h.toNat + l.toNat = 256 * h.toNat ||| l.toNat :=
    Nat.two_pow_add_eq_or_of_lt l.isLt h.toNat
  rw [w16, BitVec.toNat_or, BitVec.toNat_shiftLeft, BitVec.toNat_setWidth_of_le (by decide),
    BitVec.toNat_setWidth_of_le (by decide), hshift, Nat.or_comm, ← hdisjoint, Nat.add_comm]

theorem w16_eq (h l : Byte) : w16 h l = BitVec.ofNat 16 (l.toNat + 256 * h.toNat) := by
  rw [← w16_toNat, BitVec.ofNat_toNat, BitVec.setWidth_eq]

theorem hi_toNat (w : Word) : (hi w).toNat = w.toNat / 256 := by
  have hw := w.isLt
  rw [hi, BitVec.toNat_setWidth, BitVec.toNat_ushiftRight, Nat.shiftRight_eq_div_pow]
  omega

/-- Two addresses lie in different pages exactly if their high bytes differ. -/
theorem hi_bne_hi (v w : Word) : (hi v != hi w) = decide (v.toNat / 256 ≠ w.toNat / 256) := by
  simp only [← hi_toNat, bne, beq_eq_decide, ← decide_not, ne_eq, BitVec.toNat_inj]

/-- The full 16-bit addition of an index, crossed iff the page changes (R88, R89, R91). -/
theorem indexed_eq (w : Word) (ix : Byte) :
    indexed w ix = ⟨.addr (BitVec.ofNat 16 (w.toNat + ix.toNat)),
      decide ((BitVec.ofNat 16 (w.toNat + ix.toNat)).toNat / 256 ≠ w.toNat / 256)⟩ := by
  have hsum : w + zext16 ix = BitVec.ofNat 16 (w.toNat + ix.toNat) := by
    simp [BitVec.ofNat_add, zext16]
  simp only [indexed, hsum, hi_bne_hi]

/-- Indexing leaves the page exactly if the low byte's sum carries, at the top of memory too (R88). -/
theorem indexed_crossed (w : Word) (ix : Byte) :
    (indexed w ix).crossed = decide (255 < w.toNat % 256 + ix.toNat) := by
  have hw := w.isLt
  have hix := ix.isLt
  simp only [indexed_eq, BitVec.toNat_ofNat, decide_eq_decide]
  omega

theorem fetch8_eq (t : Logged) : fetch8 t = (t.state.read t.state.PC,
    ⟨{ t.state with PC := t.state.PC + 1 }, t.log ++ [.read t.state.PC]⟩) := rfl

theorem fetch16_eq (t : Logged) :
    fetch16 t = (w16 (t.state.read (t.state.PC + 1)) (t.state.read t.state.PC),
      ⟨{ t.state with PC := t.state.PC + 2 },
        t.log ++ [.read t.state.PC, .read (t.state.PC + 1)]⟩) := by
  have hPC : t.state.PC + 1 + 1 = t.state.PC + 2 := BitVec.add_assoc ..
  simp only [fetch16, fetch8_eq, hPC, List.append_assoc]
  rfl

end Sys2Proof.Proofs
end

section
/-! PROOFS. What each addressing mode of 40_addressing_modes.md answers, in the pseudocode and in the meanings: the direct
modes (O7), the absolute ones (O8) and the indirect ones (O9). -/

namespace Sys2Proof.Proofs

open Sys2Proof Sys2Proof.Machine

/-- Settles O7: the accumulator, the fetched byte, or an address in the zero page (R82 to R86). -/
theorem directModes : Obligations.DirectModes := by
  unfold Obligations.DirectModes
  intro t s b
  simp only [resolveMode, resolve, fetch8_eq, zext16_eq, BitVec.toNat_add, Mode.operandBytes,
    and_self]

/-- Settles O8: the fetched word, alone or indexed with a carry into its high byte (R87 to R89). -/
theorem absoluteModes : Obligations.AbsoluteModes := by
  unfold Obligations.AbsoluteModes
  refine ⟨fun t => ?_, fun w s => ?_, rfl, rfl, rfl⟩
  · simp only [resolveMode, resolve, fetch16_eq, w16_eq, and_self]
  · exact ⟨rfl, indexed_eq w s.X, indexed_eq w s.Y, indexed_crossed w s.X, indexed_crossed w s.Y⟩

/-- Settles O9: the word at a zero-page pointer, indexed before or after it is read (R90, R91). -/
theorem indirectModes : Obligations.IndirectModes := by
  unfold Obligations.IndirectModes
  refine ⟨fun t => ⟨?izxReads, ?izyReads⟩, fun b s => ⟨?izxOperand, ?izyOperand⟩, rfl, rfl⟩
  case izxReads =>
    simp only [resolveMode, fetch8_eq, readZeroPageWord_eq, zext16_eq, BitVec.toNat_add,
      BitVec.reduceToNat, Nat.mod_add_mod, List.append_assoc]
    rfl
  case izyReads =>
    simp only [resolveMode, fetch8_eq, readZeroPageWord_eq, zext16_eq, BitVec.toNat_add,
      BitVec.reduceToNat, List.append_assoc]
    rfl
  case izxOperand =>
    simp only [resolve, zeroPageWord, w16_eq, zext16_eq, BitVec.toNat_add, BitVec.reduceToNat,
      Nat.mod_add_mod]
  case izyOperand =>
    simp only [resolve, indexed_eq, zeroPageWord, w16_toNat, zext16_eq, BitVec.toNat_add,
      BitVec.reduceToNat]

end Sys2Proof.Proofs
end

section
/-! SUPPORT. The rows of a mnemonic: what the decoder and the decode table say of it together is what the table lists. -/

namespace Sys2Proof.Proofs

open Sys2Proof Sys2Proof.Machine Sys2Proof.Claim

theorem mem_instructionSet_iff (e : Entry) :
    e ∈ instructionSet ↔ lookup .ext e.opcode = some e :=
  ⟨lookup_opcode_of_mem e, fun h => (lookup_eq_some h).1⟩

/-- The entry of a byte that decodes is the row of the decoded instruction (R64). -/
theorem lookup_of_decodeAt {op b1 b2 : Byte} {i : Instr} (h : decodeAt .ext op b1 b2 = some i) :
    lookup .ext op = some ⟨op, i.mnemonic, i.mode, baseOf i⟩ := by
  obtain ⟨-, rfl, -⟩ := decodeAt_eq_some h
  exact lookup_opcode i

/-- A byte decodes to an instruction of a mnemonic and mode exactly if its table entry has them (R64). -/
theorem exists_decodeAt_iff_lookup {op b1 b2 : Byte} {m : Mnemonic} {md : Mode} {base : Nat} :
    (∃ i, decodeAt .ext op b1 b2 = some i ∧ i.mnemonic = m ∧ i.mode = md ∧
      (lookup .ext op).map Entry.baseCycles = some base) ↔
      lookup .ext op = some ⟨op, m, md, base⟩ := by
  constructor
  · rintro ⟨i, hi, rfl, rfl, hbase⟩
    have hrow := lookup_of_decodeAt hi
    simpa [hrow] using hbase
  · intro hlookup
    obtain ⟨i, hi⟩ := decodeAt_of_lookup hlookup b1 b2
    have hrow := (lookup_of_decodeAt hi).symm.trans hlookup
    cases hrow
    exact ⟨i, hi, rfl, rfl, by simp [hlookup]⟩

/-- The opcode bytes, modes and base cycles of a mnemonic's rows, in the order of the decode table. -/
def rowsOf (m : Mnemonic) : List (Byte × Mode × Nat) :=
  (instructionSet.filter fun e => e.mnemonic == m).map fun e => (e.opcode, e.mode, e.baseCycles)

theorem mem_rowsOf_iff {m : Mnemonic} {op : Byte} {md : Mode} {base : Nat} :
    (op, md, base) ∈ rowsOf m ↔ (⟨op, m, md, base⟩ : Entry) ∈ instructionSet := by
  simp only [rowsOf, List.mem_map, List.mem_filter, beq_iff_eq, Prod.mk.injEq]
  constructor
  · rintro ⟨e, ⟨he, rfl⟩, rfl, rfl, rfl⟩
    exact he
  · exact fun h => ⟨_, ⟨h, rfl⟩, rfl, rfl, rfl⟩

theorem rowsAre_rowsOf (m : Mnemonic) : rowsAre m (rowsOf m) := by
  intro op b1 b2 md base
  rw [mem_rowsOf_iff, mem_instructionSet_iff, exists_decodeAt_iff_lookup]

end Sys2Proof.Proofs
end

section
/-! PROOFS. What ADC and SBC do (O12, O13): ADC on the operand, and ADC on its one's complement. -/

namespace Sys2Proof.Proofs

open Sys2Proof Sys2Proof.Machine Sys2Proof.Claim

/-- The effect of ADC, field by field (R101). -/
theorem adcEffect_eq (m : Byte) (s : State) :
    let sum := s.A.toNat + m.toNat + b2n s.C
    let r := BitVec.ofNat 8 (sum % 256)
    adcEffect m s = { s with
      A := r, C := decide (255 < sum), Z := r == 0, N := bit r 7
      V := ((s.A ^^^ r) &&& (m ^^^ r) &&& 0x80) != 0 } := by
  intro sum r
  have hr : r = BitVec.ofNat 8 sum := by simp [r, ← BitVec.toNat_inj]
  rw [hr]
  rfl

/-- SBC is ADC of the one's complement of the operand (R102). -/
theorem sbcEffect_eq_adcEffect (m : Byte) (s : State) :
    sbcEffect m s = adcEffect (BitVec.ofNat 8 (255 - m.toNat)) s := by
  have hcomplement : ~~~m = BitVec.ofNat 8 (255 - m.toNat) := by
    rw [← BitVec.toNat_inj, BitVec.toNat_not, BitVec.toNat_ofNat]
    omega
  rw [← hcomplement]
  rfl

/-- Settles O12: the rows of ADC, and the state it answers (R101). -/
theorem adcAddsWithCarry : Obligations.AdcAddsWithCarry := by
  unfold Obligations.AdcAddsWithCarry
  refine ⟨rowsAre_rowsOf .adc, fun i s hadc => ?_⟩
  obtain ⟨m, hm, hexec⟩ := exec_of_readOnly (f := adcEffect) (by rw [hadc]; rfl) s
  refine ⟨m, hm, ?_⟩
  rw [hexec, adcEffect_eq]
  rfl

/-- Settles O13: the rows of SBC, and the state it answers (R102). -/
theorem sbcAddsComplement : Obligations.SbcAddsComplement := by
  unfold Obligations.SbcAddsComplement
  refine ⟨rowsAre_rowsOf .sbc, fun i s hsbc => ?_⟩
  obtain ⟨m, hm, hexec⟩ := exec_of_readOnly (f := sbcEffect) (by rw [hsbc]; rfl) s
  refine ⟨m, hm, ?_⟩
  rw [hexec, sbcEffect_eq_adcEffect, adcEffect_eq]
  rfl

end Sys2Proof.Proofs
end

section
/-! PROOFS. Flag D has no effect on ADC and SBC (O16): neither resolving the operand nor the effect looks at it. -/

namespace Sys2Proof.Proofs

open Sys2Proof Sys2Proof.Machine Sys2Proof.Claim

section SetD
variable (i : Instr) (s : State) (d : Bool)

theorem past_setD : past i (s.setD d) = (past i s).setD d := rfl

theorem resolve_setD (arg : ModeArg) : resolve arg (s.setD d) = resolve arg s := by
  cases arg <;> rfl

theorem operandOf_setD : operandOf i (s.setD d) = operandOf i s := by
  rw [operandOf, past_setD, resolve_setD, operandOf]

theorem operandValue_setD : operandValue i (s.setD d) = operandValue i s := by
  simp only [operandValue, operandOf_setD, State.setD_A, State.setD_read]

theorem costOf_setD (extra : Nat) : costOf i (s.setD d) extra = costOf i s extra := by
  simp only [costOf, operandOf_setD]

theorem storeSum_setD (r : Sum) : storeSum r (s.setD d) = (storeSum r s).setD d := rfl

theorem adcEffect_setD (m : Byte) : adcEffect m (s.setD d) = (adcEffect m s).setD d := by
  rw [adcEffect, State.setD_A, State.setD_C, storeSum_setD, adcEffect]

theorem sbcEffect_setD (m : Byte) : sbcEffect m (s.setD d) = (sbcEffect m s).setD d := by
  rw [sbcEffect_eq_adcEffect, adcEffect_setD, sbcEffect_eq_adcEffect]

end SetD

/-- A read-only instruction whose effect does not look at D does not look at D. -/
theorem exec_setD_of_readOnly {i : Instr} {f : Byte → State → State} {d : Bool}
    (h : meaningOf i.mnemonic = .readOnly f) (hf : ∀ s m, f m (s.setD d) = (f m s).setD d)
    (s : State) : exec i (s.setD d) = withD d (exec i s) := by
  obtain ⟨m, hm, hexec⟩ := exec_of_readOnly h s
  obtain ⟨m', hm', hexec'⟩ := exec_of_readOnly h (s.setD d)
  rw [operandValue_setD, hm] at hm'
  cases hm'
  rw [hexec, hexec', past_setD, hf, costOf_setD]
  rfl

/-- Settles O16: the operand, the sum and the cost do not depend on D, which no rule of the two lists (R104). -/
theorem decimalFlagIgnored : Obligations.DecimalFlagIgnored := by
  unfold Obligations.DecimalFlagIgnored
  intro i s d hmnemonic
  refine ⟨?ignored, ?kept⟩
  case ignored =>
    obtain hadc | hsbc := hmnemonic
    · exact exec_setD_of_readOnly (by rw [hadc]; rfl) (adcEffect_setD · d) s
    · exact exec_setD_of_readOnly (by rw [hsbc]; rfl) (sbcEffect_setD · d) s
  case kept =>
    obtain ⟨t, ht⟩ := exec_completes i s
    have hD : FlagName.D ∉ flagsWritten i.mnemonic := by
      obtain hadc | hsbc := hmnemonic
      · rw [hadc]; decide
      · rw [hsbc]; decide
    exact ⟨t, ht, exec_keeps_flag ht hD⟩

end Sys2Proof.Proofs
end

section
/-! PROOFS. What AND and ORA do (O17): A is combined with the operand, and Z and N describe the new A. -/

namespace Sys2Proof.Proofs

open Sys2Proof Sys2Proof.Machine Sys2Proof.Claim

theorem storeA_eq (r : Byte) (s : State) :
    storeA r s = { s with A := r, Z := r == 0, N := bit r 7 } := rfl

/-- What an instruction answers that combines A with its operand and stores the result in A (R94, R111, R112). -/
theorem exec_of_storeA {i : Instr} {op : Byte → Byte → Byte}
    (h : meaningOf i.mnemonic = .readOnly fun m s => storeA (op s.A m) s) (s : State) :
    ∃ m, operandValue i s = some m ∧
      exec i s = .next { past i s with
        A := op s.A m, Z := op s.A m == 0, N := bit (op s.A m) 7, CR := costOf i s 0 - 1 } := by
  obtain ⟨m, hm, hexec⟩ := exec_of_readOnly h s
  refine ⟨m, hm, ?_⟩
  rw [hexec, storeA_eq]
  rfl

/-- Settles O17: the rows of AND and ORA, and the states they answer (R111, R112). -/
theorem andOraCombineBits : Obligations.AndOraCombineBits := by
  unfold Obligations.AndOraCombineBits
  refine ⟨rowsAre_rowsOf .and, rowsAre_rowsOf .ora, fun i s hand => ?_, fun i s hora => ?_⟩
  · exact exec_of_storeA (op := (· &&& ·)) (by rw [hand]; rfl) s
  · exact exec_of_storeA (op := (· ||| ·)) (by rw [hora]; rfl) s

end Sys2Proof.Proofs
end

section
/-! PROOFS. What CPA, CPX and CPY do (O18), and that their flags are those of SBC with carry set (O19). -/

namespace Sys2Proof.Proofs

open Sys2Proof Sys2Proof.Machine Sys2Proof.Claim

/-- Bit 7 of a difference of bytes, as the remainder of the exact difference (R120). -/
theorem bit_sub_seven (a m : Byte) :
    bit (a - m) 7 = decide (128 ≤ ((a.toNat : Int) - m.toNat) % 256) := by
  have hsub : (a - m).toNat = ((a.toNat : Int) - m.toNat) % 256 := by
    rw [BitVec.toNat_sub]
    omega
  rw [bit, ← BitVec.msb_eq_getLsbD_last, BitVec.msb_eq_decide, ← hsub, decide_eq_decide]
  omega

/-- The flags of a comparison, field by field (R120). -/
theorem compareFlags_eq (rg m : Byte) (s : State) :
    compareFlags rg m s = { s with
      C := decide (m.toNat ≤ rg.toNat), Z := decide (rg = m)
      N := decide (128 ≤ ((rg.toNat : Int) - m.toNat) % 256) } := by
  rw [← bit_sub_seven, ← beq_eq_decide]
  rfl

/-- The meaning of a mnemonic that compares a register is to compare that register (R121 to R123). -/
theorem meaningOf_of_comparedRegister {i : Instr} {s : State} {rg : Byte}
    (h : comparedRegister i.mnemonic s = some rg) : ∃ f, meaningOf i.mnemonic = .readOnly f ∧
      ∀ m, f m (past i s) = compareFlags rg m (past i s) := by
  cases hm : i.mnemonic with
  | cpa | cpx | cpy =>
    rw [hm] at h
    cases h
    exact ⟨_, rfl, fun _ => rfl⟩
  | _ => simp [hm, comparedRegister] at h

/-- What an instruction answers that compares a register with its operand (R94, R120). -/
theorem exec_of_comparedRegister {i : Instr} {s : State} {rg : Byte}
    (h : comparedRegister i.mnemonic s = some rg) : ∃ m, operandValue i s = some m ∧
      exec i s = .next ((compareFlags rg m (past i s)).setCR (costOf i s 0 - 1)) := by
  obtain ⟨f, hf, hcompare⟩ := meaningOf_of_comparedRegister h
  obtain ⟨m, hm, hexec⟩ := exec_of_readOnly hf s
  exact ⟨m, hm, by rw [hexec, hcompare]⟩

theorem exec_of_comparedRegister_fields {i : Instr} {s : State} {rg : Byte}
    (h : comparedRegister i.mnemonic s = some rg) : ∃ m, operandValue i s = some m ∧
      exec i s = .next { past i s with
        C := decide (m.toNat ≤ rg.toNat), Z := decide (rg = m)
        N := decide (128 ≤ ((rg.toNat : Int) - m.toNat) % 256), CR := costOf i s 0 - 1 } := by
  obtain ⟨m, hm, hexec⟩ := exec_of_comparedRegister h
  refine ⟨m, hm, ?_⟩
  rw [hexec, compareFlags_eq]
  rfl

/-- Settles O18: the rows of CPA, CPX and CPY, and the states they answer (R121 to R123). -/
theorem compareSetsThreeFlags : Obligations.CompareSetsThreeFlags := by
  unfold Obligations.CompareSetsThreeFlags
  refine ⟨rowsAre_rowsOf .cpa, rowsAre_rowsOf .cpx, rowsAre_rowsOf .cpy, fun i s hcpa => ?_,
    fun i s hcpx => ?_, fun i s hcpy => ?_⟩
  · exact exec_of_comparedRegister_fields (by rw [hcpa]; rfl)
  · exact exec_of_comparedRegister_fields (by rw [hcpx]; rfl)
  · exact exec_of_comparedRegister_fields (by rw [hcpy]; rfl)

/-- With carry set, the one's complement and the carry add up to the negative of the operand (R102). -/
theorem subBytes_true_result (a m : Byte) : (subBytes a m true).result = a - m := by
  rw [← BitVec.toNat_inj, subBytes, addBytes, BitVec.toNat_ofNat, BitVec.toNat_not,
    BitVec.toNat_sub, b2n, if_pos rfl]
  omega

/-- With carry set, SBC leaves carry set exactly if it needs no borrow (R102). -/
theorem subBytes_true_carry (a m : Byte) :
    (subBytes a m true).carry = decide (m.toNat ≤ a.toNat) := by
  rw [subBytes, addBytes, BitVec.toNat_not, b2n, if_pos rfl, decide_eq_decide]
  omega

/-- SBC of an immediate byte with carry set answers the three flags of a comparison of A (R102, R124). -/
theorem exec_sbcImm_of_carry {s : State} (hC : s.C = true) (m : Byte) :
    ∃ u, exec (.sbcImm m) s = .next u ∧ u.C = (compareFlags s.A m s).C ∧
      u.Z = (compareFlags s.A m s).Z ∧ u.N = (compareFlags s.A m s).N := by
  obtain ⟨_, hm, hexec⟩ := exec_of_readOnly (i := .sbcImm m) (f := sbcEffect) rfl s
  cases hm
  have hzero : (s.A - m == 0#8) = (s.A == m) := by
    rw [Bool.eq_iff_iff, beq_iff_eq, beq_iff_eq]
    exact sub_eq_zero
  refine ⟨_, hexec, ?_⟩
  simp [sbcEffect, past, hC, subBytes_true_result, subBytes_true_carry, hzero]

/-- A comparison of equal values sets C and clears N (R124). -/
theorem compareFlags_of_Z {rg m : Byte} {s : State} (hZ : (compareFlags rg m s).Z = true) :
    (compareFlags rg m s).C = true ∧ (compareFlags rg m s).N = false := by
  obtain rfl : rg = m := beq_iff_eq.mp hZ
  simp [bit]

/-- Settles O19: a compare is SBC with carry set, as far as C, Z and N go (R124). -/
theorem compareAgreesWithSbc : Obligations.CompareAgreesWithSbc := by
  unfold Obligations.CompareAgreesWithSbc
  intro i s rg hrg
  obtain ⟨m, hm, hcompare⟩ := exec_of_comparedRegister hrg
  obtain ⟨u, hsbc, hC, hZ, hN⟩ := exec_sbcImm_of_carry (s := { s with A := rg, C := true }) rfl m
  exact ⟨m, _, u, hm, hcompare, hsbc, hC.symm, hZ.symm, hN.symm, rfl, rfl, rfl, rfl,
    decide_eq_true_iff, beq_iff_eq, compareFlags_of_Z (s := past i s)⟩

end Sys2Proof.Proofs
end

section
/-! PROOFS. What ASL, LSR, ROL and ROR do (O20, O21): the byte functions as arithmetic on the operand's value, and the
state a shift answers. -/

namespace Sys2Proof.Proofs

open Sys2Proof Sys2Proof.Machine Sys2Proof.Claim

section Bytes
variable (m : Byte) (c : Bool)

theorem asl_eq : asl m c = ⟨BitVec.ofNat 8 ((m.toNat <<< 1) % 256), bit m 7⟩ := by
  have hr : m <<< 1 = BitVec.ofNat 8 ((m.toNat <<< 1) % 256) := by simp [← BitVec.toNat_inj]
  rw [asl, hr]

theorem ushiftRight_one_eq : m >>> 1 = BitVec.ofNat 8 (m.toNat >>> 1) := by
  rw [← BitVec.toNat_ushiftRight, BitVec.ofNat_toNat, BitVec.setWidth_eq]

theorem lsr_eq : lsr m c = ⟨BitVec.ofNat 8 (m.toNat >>> 1), bit m 0⟩ := by
  rw [lsr, ushiftRight_one_eq]

theorem rol_eq : rol m c = ⟨BitVec.ofNat 8 (((m.toNat <<< 1) ||| b2n c) % 256), bit m 7⟩ := by
  have hr : m <<< 1 ||| BitVec.ofNat 8 (b2n c) =
      BitVec.ofNat 8 (((m.toNat <<< 1) ||| b2n c) % 256) := by
    simp [← BitVec.toNat_inj, Nat.or_mod_two_pow (n := 8)]
  rw [rol, hr]

theorem ror_eq : ror m c = ⟨BitVec.ofNat 8 ((m.toNat >>> 1) ||| (b2n c <<< 7)), bit m 0⟩ := by
  have hcarry : BitVec.ofNat 8 (b2n c) <<< 7 = BitVec.ofNat 8 (b2n c <<< 7) := by cases c <;> rfl
  rw [ror, ushiftRight_one_eq, hcarry, ← BitVec.ofNat_or]

end Bytes

/-- What an instruction answers whose byte function leaves `result` and shifts out bit `k` (R135). -/
theorem exec_of_shift_fields {i : Instr} {f : Byte → Bool → Shifted} {result : Byte → Bool → Byte}
    {k : Nat} (h : meaningOf i.mnemonic = .shift f) (hf : ∀ m c, f m c = ⟨result m c, bit m k⟩)
    (s : State) : ∃ m u, operandValue i s = some m ∧
      written (operandOf i s).operand (result m s.C) (past i s) = some u ∧
      exec i s = .next { u with
        C := bit m k, Z := result m s.C == 0, N := bit (result m s.C) 7
        CR := costOf i s 0 - 1 } := by
  obtain ⟨m, u, hm, hu, hexec⟩ := exec_of_shift h s
  rw [hf] at hu hexec
  exact ⟨m, u, hm, hu, hexec⟩

/-- Settles O20: the rows of ASL and LSR, and the states they answer (R131, R132). -/
theorem shiftsWriteBack : Obligations.ShiftsWriteBack := by
  unfold Obligations.ShiftsWriteBack
  refine ⟨rowsAre_rowsOf .asl, rowsAre_rowsOf .lsr, fun i s hasl => ?_, fun i s hlsr => ?_⟩
  · exact exec_of_shift_fields (by rw [hasl]; rfl) asl_eq s
  · exact exec_of_shift_fields (by rw [hlsr]; rfl) lsr_eq s

/-- Settles O21: the rows of ROL and ROR, and the states they answer (R133, R134). -/
theorem rotatesWriteBack : Obligations.RotatesWriteBack := by
  unfold Obligations.RotatesWriteBack
  refine ⟨rowsAre_rowsOf .rol, rowsAre_rowsOf .ror, fun i s hrol => ?_, fun i s hror => ?_⟩
  · exact exec_of_shift_fields (by rw [hrol]; rfl) rol_eq s
  · exact exec_of_shift_fields (by rw [hror]; rfl) ror_eq s

end Sys2Proof.Proofs
end

section
/-! Settles O45 and O48: the Running tick, and the tick as the spec's pseudocode writes it. -/

namespace Sys2Proof.Proofs

open Sys2Proof Sys2Proof.Machine Sys2Proof.Claim

/-- Settles O45: a Running tick only counts down (R143). -/
theorem runningTickOnlyCounts : Obligations.RunningTickOnlyCounts := by
  unfold Obligations.RunningTickOnlyCounts
  exact fun p s hrunning => tick_running (Nat.pos_iff_ne_zero.mp hrunning)

/-- The Idle tick of the pseudocode at a byte without table entry raises the one exception (R142, R161). -/
theorem idleTickLogged_of_lookup_none {p : Profile} {s : State} (h : lookup p (s.read s.PC) = none) :
    idleTickLogged p s = .fault (.undefinedOpcode (s.read s.PC) s.PC) := by
  have hbyte : (memRead s.PC ⟨s, []⟩).1 = s.read s.PC := rfl
  simp only [idleTickLogged, hbyte, h]

/-- The engine's Idle tick is the pseudocode's without its log, at a byte that decodes and at one that does not (R142). -/
theorem idleTick_eq_forgetLog (p : Profile) (s : State) :
    idleTick p s = forgetLog (idleTickLogged p s) := by
  cases hdecode : decodedAt p s with
  | none =>
    have hentry : lookup p (s.read s.PC) = none := (decodeAt_eq_none_iff ..).mp hdecode
    rw [idleTick_of_undefined hdecode, idleTickLogged_of_lookup_none hentry]
    rfl
  | some i =>
    obtain ⟨t, hexec, hlog⟩ := idleTickLogged_of_decoded hdecode
    rw [idleTick_of_decoded hdecode, hexec, hlog]
    rfl

/-- Settles O48: the tick is the spec's `Tick()` over the decode table (R141, R142). -/
theorem stepFollowsPseudocode : Obligations.StepFollowsPseudocode := by
  unfold Obligations.StepFollowsPseudocode
  intro p s
  by_cases hidle : s.CR = 0
  · rw [stepIn, tick_idle hidle, tickLogged, if_pos hidle, idleTick_eq_forgetLog]
  · rw [stepIn, tick_running hidle, tickLogged, if_neg hidle]
    rfl

end Sys2Proof.Proofs
end

section
/-! Settles O43: the countdown that read-only and read-modify-write instructions load, from their row and the page
cross. -/

namespace Sys2Proof.Proofs

open Sys2Proof Sys2Proof.Machine Sys2Proof.Claim

theorem baseCycles_pos_of_mem : ∀ e ∈ instructionSet, 0 < e.baseCycles := by decide +kernel

/-- The relative mode, whose resolver sets the page-cross flag too, is no read-only row's (R66, R203). -/
theorem mode_ne_rel_of_mem : ∀ e ∈ instructionSet, e.isReadOnly = true → e.mode ≠ .rel := by
  decide +kernel

theorem baseOf_pos (i : Instr) : 0 < baseOf i :=
  baseCycles_pos_of_mem _ (lookup_eq_some (lookup_opcode i)).1

theorem mode_ne_rel_of_readOnly {i : Instr} (h : i.mnemonic.opClass = .readOnly) : i.mode ≠ .rel :=
  mode_ne_rel_of_mem _ (lookup_eq_some (lookup_opcode i)).1 (by simp [Entry.isReadOnly, h])

/-- Only ABX, ABY, IZY and REL add to a base address, so no other mode crosses a page (R93, R252). -/
theorem resolve_crossed_eq_false {arg : ModeArg}
    (hindexed : ¬(arg.mode = .abx ∨ arg.mode = .aby ∨ arg.mode = .izy)) (hrel : arg.mode ≠ .rel)
    (s : State) : (resolve arg s).crossed = false := by
  cases arg with
  | abx | aby | izy | rel => simp [ModeArg.mode] at hindexed hrel
  | _ => rfl

/-- A read-only instruction pays one cycle more exactly if its operand crosses a page (R144, R153). -/
theorem exec_cost_of_readOnly {i : Instr} (h : i.mnemonic.opClass = .readOnly) (s : State) :
    ∃ t, exec i s = .next t ∧
      t.CR + 1 = if (operandOf i s).crossed then baseOf i + 1 else baseOf i := by
  obtain ⟨f, hf⟩ := (opClass_eq_readOnly_iff _).mp h
  obtain ⟨m, -, hexec⟩ := exec_of_readOnly hf s
  refine ⟨_, hexec, ?_⟩
  have hbase : baseOf i - 1 + 1 = baseOf i := Nat.sub_add_cancel (baseOf_pos i)
  rw [State.setCR_CR, costOf_of_readOnly hf]
  cases (operandOf i s).crossed with
  | true => simp [cost, b2n]
  | false => simp [cost, b2n, hbase]

theorem opClass_eq_readModifyWrite_iff (m : Mnemonic) : m.opClass = .readModifyWrite ↔
    (∃ f, meaningOf m = .shift f) ∨ ∃ f, meaningOf m = .modify f := by
  cases m <;> simp [Mnemonic.opClass, meaningOf]

/-- A read-modify-write instruction always pays its base cycles (R144, R154). -/
theorem exec_cost_of_readModifyWrite {i : Instr} (h : i.mnemonic.opClass = .readModifyWrite)
    (s : State) : ∃ t, exec i s = .next t ∧ t.CR + 1 = baseOf i := by
  have hcost : costOf i s 0 - 1 + 1 = baseOf i := by
    have hclass (f) : meaningOf i.mnemonic ≠ .readOnly f := fun hf => by
      simp [(opClass_eq_readOnly_iff _).mpr ⟨f, hf⟩] at h
    rw [costOf_of_not_readOnly hclass]
    exact Nat.sub_add_cancel (baseOf_pos i)
  obtain ⟨f, hf⟩ | ⟨f, hf⟩ := (opClass_eq_readModifyWrite_iff _).mp h
  · obtain ⟨m, u, -, -, hexec⟩ := exec_of_shift hf s
    exact ⟨_, hexec, hcost⟩
  · obtain ⟨a, -, hexec⟩ := exec_of_modify hf s
    exact ⟨_, hexec, hcost⟩

/-- The six read-modify-write rows of mode ABX have 7 base cycles (R66, R203). -/
theorem baseOf_readModifyWriteAbx (w : Word) :
    ∀ i ∈ [Instr.aslAbx w, .lsrAbx w, .rolAbx w, .rorAbx w, .incAbx w, .decAbx w],
      i.mnemonic.opClass = .readModifyWrite ∧ baseOf i = 7 := by
  simp only [List.forall_mem_cons]
  exact ⟨⟨rfl, rfl⟩, ⟨rfl, rfl⟩, ⟨rfl, rfl⟩, ⟨rfl, rfl⟩, ⟨rfl, rfl⟩, ⟨rfl, rfl⟩, nofun⟩

/-- Settles O43: the page-cross cycle of the read-only instructions (R153), and the fixed cost of the
read-modify-write instructions in mode ABX (R154). -/
theorem pageCrossPenalty : Obligations.PageCrossPenalty := by
  unfold Obligations.PageCrossPenalty
  refine ⟨fun i s hclass => ?_, fun w s i hi => ?_⟩
  · obtain ⟨t, hexec, hcost⟩ := exec_cost_of_readOnly hclass s
    refine ⟨t, _, hexec, lookup_opcode i, fun _ => hcost, fun hmode => ?_⟩
    have hcrossed : (operandOf i s).crossed = false :=
      resolve_crossed_eq_false hmode (mode_ne_rel_of_readOnly hclass) _
    exact ⟨hcrossed, by simpa [hcrossed] using hcost⟩
  · obtain ⟨hclass, hbase⟩ := baseOf_readModifyWriteAbx w i hi
    obtain ⟨t, hexec, hcost⟩ := exec_cost_of_readModifyWrite hclass s
    exact ⟨t, _, hexec, lookup_opcode i, hbase, hcost⟩

end Sys2Proof.Proofs
end

section
/-! PROOFS. The loads and stores (O23, O24), and EOR and BIT (O28): one effect on the operand's value, or one byte
written at its address. -/

namespace Sys2Proof.Proofs

open Sys2Proof Sys2Proof.Machine Sys2Proof.Claim

/-- Settles O23: the rows of LDA, LDX and LDY, and the states they answer (R204 to R206). -/
theorem loadsFillRegister : Obligations.LoadsFillRegister := by
  unfold Obligations.LoadsFillRegister
  refine ⟨rowsAre_rowsOf .lda, rowsAre_rowsOf .ldx, rowsAre_rowsOf .ldy, fun i s hlda => ?_,
    fun i s hldx => ?_, fun i s hldy => ?_⟩
  · exact exec_of_readOnly (f := ldaEffect) (by rw [hlda]; rfl) s
  · exact exec_of_readOnly (f := ldxEffect) (by rw [hldx]; rfl) s
  · exact exec_of_readOnly (f := ldyEffect) (by rw [hldy]; rfl) s

/-- Settles O24: the rows of STA, STX and STY, and the states they answer (R207 to R209). -/
theorem storesWriteRegister : Obligations.StoresWriteRegister := by
  unfold Obligations.StoresWriteRegister
  refine ⟨rowsAre_rowsOf .sta, rowsAre_rowsOf .stx, rowsAre_rowsOf .sty, fun i s hsta => ?_,
    fun i s hstx => ?_, fun i s hsty => ?_⟩
  · exact exec_of_store (v := State.A) (by rw [hsta]; rfl) s
  · exact exec_of_store (v := State.X) (by rw [hstx]; rfl) s
  · exact exec_of_store (v := State.Y) (by rw [hsty]; rfl) s

/-- Settles O28: the rows of EOR and BIT, and the states they answer; EOR stores in A as AND and ORA do (R222, R223). -/
theorem eorAndBit : Obligations.EorAndBit := by
  unfold Obligations.EorAndBit
  refine ⟨rowsAre_rowsOf .eor, rowsAre_rowsOf .bit, fun i s heor => ?_, fun i s hbit => ?_⟩
  · exact exec_of_storeA (op := (· ^^^ ·)) (by rw [heor]; rfl) s
  · exact exec_of_readOnly (f := bitFlags) (by rw [hbit]; rfl) s

end Sys2Proof.Proofs
end

section
/-! PROOFS. The instructions without operand that write one register or flag in two cycles (O25, O27, O29), and INC and DEC,
which share the byte functions of INX, INY, DEX and DEY (O26). -/

namespace Sys2Proof.Proofs

open Sys2Proof Sys2Proof.Machine Sys2Proof.Claim

theorem incByte_eq (v : Byte) : incByte v = BitVec.ofNat 8 ((v.toNat + 1) % 256) := by
  rw [incByte, ← BitVec.toNat_inj, BitVec.toNat_add, BitVec.toNat_ofNat]
  exact (Nat.mod_mod ..).symm

/-- To subtract one is to add 255 modulo 256 (R217). -/
theorem decByte_eq (v : Byte) : decByte v = BitVec.ofNat 8 ((v.toNat + 255) % 256) := by
  rw [decByte, ← BitVec.toNat_inj, BitVec.toNat_sub, BitVec.toNat_ofNat, Nat.add_comm]
  exact (Nat.mod_mod ..).symm

/-- What an instruction answers that writes `f` of the byte at its address back there (R216, R217). -/
theorem exec_of_modify_fields {i : Instr} {f result : Byte → Byte}
    (h : meaningOf i.mnemonic = .modify f) (hf : ∀ v, f v = result v) (s : State) :
    ∃ a, (operandOf i s).operand = .addr a ∧
      exec i s = .next { (past i s).write a (result (s.read a)) with
        Z := result (s.read a) == 0, N := bit (result (s.read a)) 7, CR := costOf i s 0 - 1 } := by
  obtain ⟨a, ha, hexec⟩ := exec_of_modify h s
  rw [hf] at hexec
  exact ⟨a, ha, hexec⟩

/-- Settles O26: the rows of INC and DEC, and the states they answer (R216, R217). -/
theorem memoryIncrementDecrement : Obligations.MemoryIncrementDecrement := by
  unfold Obligations.MemoryIncrementDecrement
  refine ⟨rowsAre_rowsOf .inc, rowsAre_rowsOf .dec, fun i s hinc => ?_, fun i s hdec => ?_⟩
  · exact exec_of_modify_fields (by rw [hinc]; rfl) incByte_eq s
  · exact exec_of_modify_fields (by rw [hdec]; rfl) decByte_eq s

/-- What an instruction without operand answers whose row has two base cycles (R144, R251). -/
theorem exec_of_implied_two {i : Instr} {f : State → State}
    (h : meaningOf i.mnemonic = .implied f) (hbase : baseOf i = 2) (s : State) :
    exec i s = .next ((f (past i s)).setCR 1) := by
  rw [exec_of_implied h, costOf_of_not_readOnly (by simp [h]), hbase]

/-- Settles O27: the rows of INX, INY, DEX and DEY, and the states they answer (R218 to R221). -/
theorem registerIncrementDecrement : Obligations.RegisterIncrementDecrement := by
  unfold Obligations.RegisterIncrementDecrement
  refine ⟨rowsAre_rowsOf .inx, rowsAre_rowsOf .iny, rowsAre_rowsOf .dex, rowsAre_rowsOf .dey,
    fun s => ?_⟩
  simp only [← incByte_eq, ← decByte_eq]
  exact ⟨(exec_of_implied_two (i := .inx) rfl rfl s :), (exec_of_implied_two (i := .iny) rfl rfl s :),
    (exec_of_implied_two (i := .dex) rfl rfl s :), (exec_of_implied_two (i := .dey) rfl rfl s :)⟩

/-- Settles O25: the rows of the six transfers, and the states they answer; TXS alone sets no flag (R210 to R215). -/
theorem transfersCopyRegister : Obligations.TransfersCopyRegister := by
  unfold Obligations.TransfersCopyRegister
  refine ⟨rowsAre_rowsOf .tax, rowsAre_rowsOf .tay, rowsAre_rowsOf .txa, rowsAre_rowsOf .tya,
    rowsAre_rowsOf .tsx, rowsAre_rowsOf .txs, fun s => ?_⟩
  exact ⟨(exec_of_implied_two (i := .tax) rfl rfl s :), (exec_of_implied_two (i := .tay) rfl rfl s :),
    (exec_of_implied_two (i := .txa) rfl rfl s :), (exec_of_implied_two (i := .tya) rfl rfl s :),
    (exec_of_implied_two (i := .tsx) rfl rfl s :), (exec_of_implied_two (i := .txs) rfl rfl s :)⟩

/-- Settles O29: the rows of the seven flag instructions and NOP, and the states they answer (R224 to R231). -/
theorem flagInstructionsAndNop : Obligations.FlagInstructionsAndNop := by
  unfold Obligations.FlagInstructionsAndNop
  refine ⟨rowsAre_rowsOf .clc, rowsAre_rowsOf .sec, rowsAre_rowsOf .cli, rowsAre_rowsOf .sei,
    rowsAre_rowsOf .cld, rowsAre_rowsOf .sed, rowsAre_rowsOf .clv, rowsAre_rowsOf .nop,
    fun s => ?_⟩
  exact ⟨(exec_of_implied_two (i := .clc) rfl rfl s :), (exec_of_implied_two (i := .sec) rfl rfl s :),
    (exec_of_implied_two (i := .cli) rfl rfl s :), (exec_of_implied_two (i := .sei) rfl rfl s :),
    (exec_of_implied_two (i := .cld) rfl rfl s :), (exec_of_implied_two (i := .sed) rfl rfl s :),
    (exec_of_implied_two (i := .clv) rfl rfl s :), (exec_of_implied_two (i := .nop) rfl rfl s :)⟩

end Sys2Proof.Proofs
end

section
/-! PROOFS. Profile EXT extends profile CORE (O6): CORE's table and decoder are those of EXT with fewer mnemonics
admitted. -/

namespace Sys2Proof.Proofs

open Sys2Proof Sys2Proof.Machine Sys2Proof.Claim

/-- Of the 256 opcode bytes, those with an entry are the ones that are not undefined (R65). -/
theorem length_filter_lookup (p : Profile) :
    256 = ((List.range 256).filter fun n => (lookup p (BitVec.ofNat 8 n)).isSome).length +
      ((List.range 256).filter fun n => (lookup p (BitVec.ofNat 8 n)).isNone).length := by
  simpa using List.length_eq_length_filter_add (l := List.range 256)
    fun n => (lookup p (BitVec.ofNat 8 n)).isSome

/-- CORE leaves 190 bytes undefined (R70). -/
theorem length_filter_lookup_core_isNone :
    ((List.range 256).filter fun n => (lookup .core (BitVec.ofNat 8 n)).isNone).length = 190 := by
  have hlength : coreUndefined.length = 190 := rfl
  rwa [coreUndefined_eq_filter, List.filter_map, List.length_map] at hlength

/-- A byte with a CORE entry has the same entry in EXT, where no two rows share an opcode (R200). -/
theorem lookup_ext_of_lookup {p : Profile} {op : Byte} {e : Entry} (h : lookup p op = some e) :
    lookup .ext op = some e := by
  obtain ⟨hmem, rfl, -⟩ := lookup_eq_some h
  exact lookup_opcode_of_mem e hmem

/-- The profile enters decoding only by the mnemonics it admits (R64). -/
theorem decodeAt_eq_some_iff {p : Profile} {op b1 b2 : Byte} {i : Instr} :
    decodeAt p op b1 b2 = some i ↔
      ∃ f, formatOf op = some f ∧ f.read b1 b2 = i ∧ i.wellFormed p = true := by
  cases hf : formatOf op with
  | none => simp [decodeAt, hf]
  | some f =>
    simp only [decodeAt, hf, Option.ite_none_right_eq_some, Option.some.injEq, exists_eq_left']
    exact ⟨fun ⟨hwf, hi⟩ => ⟨hi, hi ▸ hwf⟩, fun ⟨hi, hwf⟩ => ⟨hi ▸ hwf, hi⟩⟩

theorem decodeAt_ext_of_decodeAt {p : Profile} {op b1 b2 : Byte} {i : Instr}
    (h : decodeAt p op b1 b2 = some i) : decodeAt .ext op b1 b2 = some i := by
  obtain ⟨f, hf, hread, -⟩ := decodeAt_eq_some_iff.mp h
  exact decodeAt_eq_some_iff.mpr ⟨f, hf, hread, rfl⟩

/-- The profile enters a tick only by decoding. -/
theorem tick_ext_of_tick {p : Profile} {s t : State} (h : tick p s = .next t) :
    tick .ext s = .next t := by
  obtain ⟨hidle, i, hdecode, hexec⟩ | hrunning := tick_next.mp h
  · exact tick_next.mpr (.inl ⟨hidle, i, decodeAt_ext_of_decodeAt hdecode, hexec⟩)
  · exact tick_next.mpr (.inr hrunning)

/-- Settles O6: the counts of defined bytes, and that what CORE defines EXT defines alike (R200). -/
theorem extExtendsCore : Obligations.ExtExtendsCore := by
  unfold Obligations.ExtExtendsCore
  refine ⟨?coreCount, ?extCount, fun _ _ => lookup_ext_of_lookup,
    fun _ _ _ _ => decodeAt_ext_of_decodeAt, fun _ _ => tick_ext_of_tick⟩
  case coreCount =>
    have htotal := length_filter_lookup .core
    rw [length_filter_lookup_core_isNone] at htotal
    omega
  case extCount =>
    have htotal := length_filter_lookup .ext
    obtain ⟨-, -, hundefined, -⟩ := undefinedOpcodes
    rw [hundefined] at htotal
    omega

end Sys2Proof.Proofs
end

section
/-! PROOFS. The memory frame (O38): an instruction changes memory only by the write to its operand's address or by a
push. -/

namespace Sys2Proof.Proofs

open Sys2Proof Sys2Proof.Machine Sys2Proof.Claim

theorem opClass_eq_store_iff (m : Mnemonic) : m.opClass = .store ↔ ∃ v, meaningOf m = .store v := by
  cases m <;> simp [Mnemonic.opClass, meaningOf]

/-- An instruction whose meaning writes to its operand stores to the address it resolves to (R95). -/
theorem storeAddress_of_addr {i : Instr} {s : State} {a : Word}
    (hclass : i.mnemonic.opClass = .readModifyWrite ∨ i.mnemonic.opClass = .store)
    (ha : (operandOf i s).operand = .addr a) : storeAddress i s = some a := by
  obtain hclass | hclass := hclass <;> simp [storeAddress, hclass, ha]

/-- A write to the address an instruction stores to leaves every other byte. -/
theorem read_write_of_storeAddress {i : Instr} {s : State} {a b : Word}
    (ha : storeAddress i s = some a) (hb : storeAddress i s ≠ some b) (v : Byte) (u : State) :
    (u.write a v).read b = u.read b := by
  have hne : b ≠ a := fun hba => hb (hba ▸ ha)
  rw [State.read_write, if_neg hne]

/-- The effect that the operation of `meaning` runs changes no byte but those that `i` pushes to; the write to the operand
is not the effect's but the operation's. -/
def PushesOnly (i : Instr) (meaning : Meaning) : Prop :=
  match meaning with
  | .readOnly f => ∀ m s b, (f m s).read b = s.read b
  | .implied f => ∀ s b, b ∉ pushAddresses i s → (f s).read b = s.read b
  | .jump f => ∀ a s b, b ∉ pushAddresses i s → (f a s).read b = s.read b
  | .shift _ | .modify _ | .store _ | .branch _ => True

/-- PHA pushes A, JSR its return address (R264, R266); no other mnemonic's effect touches memory. -/
theorem pushesOnly_meaningOf (i : Instr) : PushesOnly i (meaningOf i.mnemonic) := by
  cases hm : i.mnemonic with
  | pha =>
    intro s b hb
    simp only [pushAddresses, hm, List.mem_singleton] at hb
    rw [State.push_read, if_neg hb]
  | jsr =>
    intro a s b hb
    simp only [pushAddresses, hm, List.mem_cons, List.not_mem_nil, or_false, not_or] at hb
    obtain ⟨hhigh, hlow⟩ := hb
    rw [jsrEffect, State.setPC_read, State.push_read, State.push_SP, if_neg hlow, State.push_read,
      if_neg hhigh]
  | jmp => exact fun _ _ _ _ => rfl
  | asl | lsr | rol | ror | inc | dec | sta | stx | sty | bpl | bmi | bvc | bvs | bcc | bcs | bne
  | beq => trivial
  | _ => exact fun _ _ _ => rfl

/-- An instruction that completes has kept every byte it neither stores nor pushes to. -/
theorem exec_keeps_byte {i : Instr} {s t : State} {b : Word} (ht : exec i s = .next t)
    (hstore : storeAddress i s ≠ some b) (hpush : b ∉ pushAddresses i s) :
    t.read b = s.read b := by
  have heffect := pushesOnly_meaningOf i
  cases h : meaningOf i.mnemonic with
  | readOnly f =>
    rw [h] at heffect
    obtain ⟨m, -, hexec⟩ := exec_of_readOnly h s
    cases hexec.symm.trans ht
    exact heffect m (past i s) b
  | shift f =>
    obtain ⟨m, u, -, hu, hexec⟩ := exec_of_shift h s
    cases hexec.symm.trans ht
    obtain ⟨-, rfl⟩ | ⟨a, ha, rfl⟩ := operandWrite_next.mp (written_eq_some.mp hu)
    · rfl
    · have hclass := (opClass_eq_readModifyWrite_iff i.mnemonic).mpr (.inl ⟨f, h⟩)
      exact read_write_of_storeAddress (storeAddress_of_addr (.inl hclass) ha) hstore _ (past i s)
  | modify f =>
    obtain ⟨a, ha, hexec⟩ := exec_of_modify h s
    cases hexec.symm.trans ht
    have hclass := (opClass_eq_readModifyWrite_iff i.mnemonic).mpr (.inr ⟨f, h⟩)
    exact read_write_of_storeAddress (storeAddress_of_addr (.inl hclass) ha) hstore _ (past i s)
  | store v =>
    obtain ⟨a, ha, hexec⟩ := exec_of_store h s
    cases hexec.symm.trans ht
    have hclass := (opClass_eq_store_iff i.mnemonic).mpr ⟨v, h⟩
    exact read_write_of_storeAddress (storeAddress_of_addr (.inr hclass) ha) hstore _ (past i s)
  | implied f =>
    rw [h] at heffect
    cases (exec_of_implied h s).symm.trans ht
    exact heffect (past i s) b hpush
  | jump f =>
    rw [h] at heffect
    obtain ⟨a, -, hexec⟩ := exec_of_jump h s
    cases hexec.symm.trans ht
    exact heffect a (past i s) b hpush
  | branch cond =>
    obtain ⟨d, -, hexec⟩ := exec_of_branch h s
    cases hexec.symm.trans ht
    split <;> rfl

/-- Settles O38: the memory frame of every instruction. -/
theorem memoryFrame : Obligations.MemoryFrame := by
  unfold Obligations.MemoryFrame
  intro i s
  obtain ⟨t, ht⟩ := exec_completes i s
  exact ⟨t, ht, fun _ => exec_keeps_byte ht⟩

end Sys2Proof.Proofs
end

section
/-! SUPPORT. The signed displacement, the pointer that stays in its page, and the stack address, as the numbers that the
statements of 49_extension_control.md write. -/

namespace Sys2Proof.Proofs

open Sys2Proof Sys2Proof.Machine

/-- Adding the sign-extended byte is adding its signed reading modulo 65536: the two differ by 65536 or not at all
(R252). -/
theorem add_sext16_eq (w : Word) (d : Byte) :
    w + sext16 d = BitVec.ofInt 16 ((w.toNat : Int) + signed8 d) := by
  have hd : (zext16 d).toNat = d.toNat := BitVec.toNat_setWidth_of_le (by decide)
  rw [← BitVec.toNat_inj, BitVec.toNat_ofInt, BitVec.toNat_add]
  by_cases hpos : d.toNat < 128
  · simp only [sext16, signed8, if_pos hpos, hd]
    omega
  · simp only [sext16, signed8, if_neg hpos, BitVec.toNat_add, hd, BitVec.toNat_ofNat]
    omega

/-- The address after `w` in the page of `w` (R253). -/
theorem samePageSucc_eq (w : Word) :
    w16 (hi w) (lo w + 1) = BitVec.ofNat 16 (256 * (w.toNat / 256) + (w.toNat + 1) % 256) := by
  have hlow : (lo w + 1).toNat = (w.toNat + 1) % 256 := by
    rw [BitVec.toNat_add, lo, BitVec.toNat_setWidth]
    exact Nat.mod_add_mod ..
  rw [w16_eq, hi_toNat, hlow, Nat.add_comm]

/-- The page and the pointer's byte do not overlap (R269). -/
theorem stackAddress_eq (p : Byte) : stackAddress p = BitVec.ofNat 16 (256 + p.toNat) := by
  have hpage : stackAddress p = w16 0x01 p := BitVec.or_comm ..
  rw [hpage, w16_eq, Nat.add_comm]
  rfl

end Sys2Proof.Proofs
end

section
/-! PROOFS. What modes IMP, REL and IND answer, in the pseudocode and in the meanings (O10). -/

namespace Sys2Proof.Proofs

open Sys2Proof Sys2Proof.Machine

/-- Settles O10: no operand, a signed displacement, or the word at a pointer in one page (R251 to R253). -/
theorem extensionModes : Obligations.ExtensionModes := by
  unfold Obligations.ExtensionModes
  refine ⟨fun t => ⟨rfl, rfl, ?indReads⟩, fun d w s => ⟨rfl, ?relTarget, ?indTarget⟩, rfl, rfl, rfl⟩
  case indReads =>
    simp only [resolveMode, resolve, fetch16_eq, readSamePageWord_eq, samePageSucc_eq,
      List.append_assoc]
    rfl
  case relTarget => simp only [resolve, add_sext16_eq, hi_bne_hi]
  case indTarget => simp only [resolve, samePageWord, samePageSucc_eq, w16_eq (s.read _)]

end Sys2Proof.Proofs
end

section
/-! PROOFS. What the branches do (O30): the mnemonic selects the condition, the displacement the target. -/

namespace Sys2Proof.Proofs

open Sys2Proof Sys2Proof.Machine Sys2Proof.Claim

/-- The condition of a branch is that of its meaning, which looks at flags only (R255 to R262). -/
theorem meaningOf_of_branchCondition {m : Mnemonic} {s : State} {taken : Bool}
    (h : branchCondition m s = some taken) :
    ∃ cond, meaningOf m = .branch cond ∧ ∀ pc, cond (s.setPC pc) = taken := by
  cases m with
  | bpl | bmi | bvc | bvs | bcc | bcs | bne | beq => cases h; exact ⟨_, rfl, fun _ => rfl⟩
  | _ => cases h

/-- The countdown of a taken branch, by whether it stays in the page of the next instruction (R254). -/
theorem takenCountdown_eq (target next : Word) : 2 + b2n (hi target != hi next) =
    if target.toNat / 256 = next.toNat / 256 then 2 else 3 := by
  rw [hi_bne_hi]
  by_cases hpage : target.toNat / 256 = next.toNat / 256
  · simp [hpage, b2n]
  · simp [hpage, b2n]

/-- Settles O30: the rows of the eight branches, and the state each answers, taken or not (R254 to R262). -/
theorem branchesTakeOrFallThrough : Obligations.BranchesTakeOrFallThrough := by
  unfold Obligations.BranchesTakeOrFallThrough
  refine ⟨rowsAre_rowsOf .bpl, rowsAre_rowsOf .bmi, rowsAre_rowsOf .bvc, rowsAre_rowsOf .bvs,
    rowsAre_rowsOf .bcc, rowsAre_rowsOf .bcs, rowsAre_rowsOf .bne, rowsAre_rowsOf .beq,
    fun i s taken htaken => ?_⟩
  obtain ⟨cond, hmeaning, hcond⟩ := meaningOf_of_branchCondition htaken
  obtain ⟨d, harg, hexec⟩ := exec_of_branch hmeaning s
  have hpast : past i s = s.setPC (s.PC + 2) := by
    simp [past, State.advancePC, Instr.size, Instr.mode, harg, ModeArg.mode, Mode.operandBytes]
  refine ⟨d, harg, ?_⟩
  rw [hexec, hpast, hcond, takenCountdown_eq, add_sext16_eq]
  cases taken with
  | true => rfl
  | false => rfl

end Sys2Proof.Proofs
end

section
/-! PROOFS. What the jumps and the stack instructions do (O31, O32, O33): each runs one effect at the fixed cost of its
row. -/

namespace Sys2Proof.Proofs

open Sys2Proof Sys2Proof.Machine Sys2Proof.Claim

/-- What a jump answers, from its operand's address and its row's base cycles (R263, R264). -/
theorem exec_of_jump_to {i : Instr} {f : Word → State → State} {a : Word} {base : Nat} {s : State}
    (h : meaningOf i.mnemonic = .jump f) (ha : (operandOf i s).operand = .addr a)
    (hbase : baseOf i = base) : exec i s = .next ((f a (past i s)).setCR (base - 1)) := by
  obtain ⟨a', ha', hexec⟩ := exec_of_jump h s
  cases ha.symm.trans ha'
  rw [hexec, costOf_of_not_readOnly (by simp [h]), hbase, Nat.add_zero]

/-- What an instruction without operand answers, from its row's base cycles (R144, R251). -/
theorem exec_of_implied_base {i : Instr} {f : State → State} {base : Nat}
    (h : meaningOf i.mnemonic = .implied f) (hbase : baseOf i = base) (s : State) :
    exec i s = .next ((f (past i s)).setCR (base - 1)) := by
  rw [exec_of_implied h, costOf_of_not_readOnly (by simp [h]), hbase, Nat.add_zero]

/-- Settles O31: the rows of JMP, and the states they answer (R263). -/
theorem jumpsGoToTarget : Obligations.JumpsGoToTarget := by
  unfold Obligations.JumpsGoToTarget
  exact ⟨rowsAre_rowsOf .jmp, fun w s =>
    ⟨(exec_of_jump_to (i := .jmpAbs w) rfl rfl rfl :), (exec_of_jump_to (i := .jmpInd w) rfl rfl rfl :)⟩⟩

/-- The effect of JSR, field by field (R264). -/
theorem jsrEffect_eq (a : Word) (s : State) : jsrEffect a s =
    { (s.write (stackAddress s.SP) (hi (s.PC - 1))).write (stackAddress (s.SP - 1)) (lo (s.PC - 1))
      with SP := s.SP - 2, PC := a } := by
  have hSP : s.SP - 1 - 1 = s.SP - 2 := by bv_omega
  rw [← hSP]
  rfl

/-- The effect of RTS, field by field (R265). -/
theorem rtsEffect_eq (s : State) : rtsEffect s =
    { s with
      SP := s.SP + 2
      PC := w16 (s.read (stackAddress (s.SP + 2))) (s.read (stackAddress (s.SP + 1))) + 1 } := by
  have hSP : s.SP + 1 + 1 = s.SP + 2 := BitVec.add_assoc ..
  rw [← hSP]
  rfl

/-- Settles O32: the rows of JSR and RTS, and the states they answer; JSR's last byte is at `PC + 2` (R264, R265). -/
theorem jsrPushesAndRtsPulls : Obligations.JsrPushesAndRtsPulls := by
  unfold Obligations.JsrPushesAndRtsPulls
  refine ⟨rowsAre_rowsOf .jsr, rowsAre_rowsOf .rts, fun w s => ?_⟩
  simp only [← stackAddress_eq]
  constructor
  · have hret : (past (.jsr w) s).PC - 1 = s.PC + 2 := by
      change s.PC + 3 - 1 = s.PC + 2
      bv_omega
    rw [exec_of_jump_to (i := .jsr w) rfl rfl rfl, jsrEffect_eq, hret]
    rfl
  · rw [exec_of_implied_base (i := .rts) rfl rfl, rtsEffect_eq]
    rfl

/-- Settles O33: the rows of PHA and PLA, and the states they answer (R266, R267). -/
theorem phaPushesAndPlaPulls : Obligations.PhaPushesAndPlaPulls := by
  unfold Obligations.PhaPushesAndPlaPulls
  refine ⟨rowsAre_rowsOf .pha, rowsAre_rowsOf .pla, fun s => ?_⟩
  simp only [← stackAddress_eq]
  exact ⟨(exec_of_implied_base (i := .pha) rfl rfl s :), (exec_of_implied_base (i := .pla) rfl rfl s :)⟩

end Sys2Proof.Proofs
end

section
/-! SUPPORT. The words and the operand bytes of an instruction: splitting a word and joining it again, and assembling an
operand from its own bytes. -/

namespace Sys2Proof.Proofs

open Sys2Proof Sys2Proof.Machine

theorem lo_toNat (w : Word) : (lo w).toNat = w.toNat % 256 := BitVec.toNat_setWidth ..

/-- A word is the little-endian pair of its bytes (R45). -/
theorem w16_hi_lo (w : Word) : w16 (hi w) (lo w) = w := by
  rw [← BitVec.toNat_inj, w16_toNat, hi_toNat, lo_toNat]
  exact Nat.mod_add_div ..

theorem hi_w16 (h l : Byte) : hi (w16 h l) = h := by
  have hl := l.isLt
  rw [← BitVec.toNat_inj, hi_toNat, w16_toNat]
  omega

theorem lo_w16 (h l : Byte) : lo (w16 h l) = l := by
  have hl := l.isLt
  rw [← BitVec.toNat_inj, lo_toNat, w16_toNat]
  omega

theorem length_bytes (arg : ModeArg) : arg.bytes.length = arg.mode.operandBytes := by
  cases arg <;> rfl

/-- An operand is assembled from its own bytes, whatever bytes follow (R63). -/
theorem assembled_bytes_append (arg : ModeArg) (rest : List Byte) :
    arg = assembled arg.mode ((arg.bytes ++ rest).getD 0 0x00#8) ((arg.bytes ++ rest).getD 1 0x00#8) := by
  cases arg with
  | abs w | abx w | aby w | ind w => exact congrArg _ (w16_hi_lo w).symm
  | _ => rfl

/-- The bytes an operand is assembled from are its own (R63). -/
theorem bytes_append_drop_of_assembled {arg : ModeArg} {l : List Byte}
    (harg : arg = assembled arg.mode (l.getD 0 0x00#8) (l.getD 1 0x00#8))
    (hlength : arg.mode.operandBytes ≤ l.length) :
    arg.bytes ++ l.drop arg.mode.operandBytes = l := by
  cases arg with
  | acc | imp => rfl
  | imm | zpp | zpx | zpy | izx | izy | rel =>
    obtain _ | ⟨b, l⟩ := l
    · simp [ModeArg.mode, Mode.operandBytes] at hlength
    · cases harg
      rfl
  | abs w | abx w | aby w | ind w =>
    obtain _ | ⟨b1, _ | ⟨b2, l⟩⟩ := l
    · simp [ModeArg.mode, Mode.operandBytes] at hlength
    · simp [ModeArg.mode, Mode.operandBytes] at hlength
    · obtain rfl : w = w16 b2 b1 := by cases harg; rfl
      simp [ModeArg.bytes, ModeArg.mode, Mode.operandBytes, lo_w16, hi_w16]

end Sys2Proof.Proofs
end

section
/-! PROOFS. Decoding inverts encoding (O1) and encoding decoding (O2). -/

namespace Sys2Proof.Proofs

open Sys2Proof Sys2Proof.Machine

/-- The decoder's row at an instruction's opcode byte reads the instruction from its own operand bytes (R61, R64). -/
theorem formatOf_opcode (i : Instr) : ∃ f, formatOf i.opcode = some f ∧
    ∀ b1 b2, i.arg = assembled i.mode b1 b2 → f.read b1 b2 = i := by
  cases i with
  | _ =>
    dsimp only [Instr.opcode]
    refine ⟨_, rfl, fun b1 b2 harg => ?_⟩
    cases harg
    rfl

theorem decodeAt_opcode {p : Profile} {i : Instr} {b1 b2 : Byte} (hwf : i.wellFormed p = true)
    (harg : i.arg = assembled i.mode b1 b2) : decodeAt p i.opcode b1 b2 = some i := by
  obtain ⟨f, hf, hread⟩ := formatOf_opcode i
  exact decodeAt_eq_some_iff.mpr ⟨f, hf, hread b1 b2 harg, hwf⟩

/-- Decoding a list of bytes decodes its first three, the absent ones read as zero, and takes the bytes the mode has. -/
theorem decode_cons_eq_instr {p : Profile} {op : Byte} {l rest : List Byte} {i : Instr} :
    decode p (op :: l) = .instr i rest ↔ decodeAt p op (l.getD 0 0x00#8) (l.getD 1 0x00#8) = some i ∧
      i.mode.operandBytes ≤ l.length ∧ l.drop i.mode.operandBytes = rest := by
  cases h : decodeAt p op (l.getD 0 0x00#8) (l.getD 1 0x00#8) with
  | none => simp only [decode, h, reduceCtorEq, false_and]
  | some j =>
    simp only [decode, h]
    by_cases hlength : j.mode.operandBytes ≤ l.length
    · simp only [hlength, if_true, Decoded.instr.injEq, Option.some.injEq]
      constructor
      · rintro ⟨rfl, rfl⟩
        exact ⟨rfl, hlength, rfl⟩
      · rintro ⟨rfl, -, rfl⟩
        exact ⟨rfl, rfl⟩
    · simp only [hlength, if_false, reduceCtorEq, Option.some.injEq, false_iff]
      rintro ⟨rfl, h, -⟩
      exact hlength h

/-- Settles O1: the opcode selects the row, and the row reads the operand back from its bytes. -/
theorem decodeInvertsEncode : Obligations.DecodeInvertsEncode := by
  unfold Obligations.DecodeInvertsEncode
  intro p i rest hwf
  have hlength : i.arg.bytes.length = i.mode.operandBytes := length_bytes i.arg
  refine decode_cons_eq_instr.mpr ⟨decodeAt_opcode hwf (assembled_bytes_append ..), ?_, ?_⟩
  · rw [← hlength]
    exact (List.sublist_append_left ..).length_le
  · rw [← hlength]
    exact List.drop_left

/-- Settles O2: the bytes taken are those of the instruction they decode to, and the profile admits it. -/
theorem encodeInvertsDecode : Obligations.EncodeInvertsDecode := by
  unfold Obligations.EncodeInvertsDecode
  intro p bytes rest i h
  obtain _ | ⟨op, l⟩ := bytes
  · cases h
  · obtain ⟨hdecode, hlength, rfl⟩ := decode_cons_eq_instr.mp h
    obtain ⟨hwf, rfl, harg⟩ := decodeAt_eq_some hdecode
    exact ⟨congrArg _ (bytes_append_drop_of_assembled harg hlength).symm, hwf⟩

/-- Settles O3: each word is the encoding of the instruction it decodes to, or an opcode without CORE entry (R72). -/
theorem decodedWordsFromTheSpec : Obligations.DecodedWordsFromTheSpec := by
  unfold Obligations.DecodedWordsFromTheSpec
  exact ⟨rfl, rfl, rfl, rfl, rfl, rfl, rfl, rfl, rfl, rfl, rfl, rfl, rfl, rfl, rfl, rfl⟩

/-- Settles O5: the lookup and the decoder define the same bytes, and at each of them the same row (R64, R65). -/
theorem lookupAgreesWithDecoder : Obligations.LookupAgreesWithDecoder := by
  unfold Obligations.LookupAgreesWithDecoder
  intro p op b1 b2
  cases h : decodeAt p op b1 b2 with
  | none => exact (decodeAt_eq_none_iff ..).mp h
  | some i =>
    obtain ⟨hwf, rfl, -⟩ := decodeAt_eq_some h
    exact ⟨rfl, _, lookup_of_wellFormed hwf, rfl, rfl, rfl⟩

end Sys2Proof.Proofs
end

section
/-! PROOFS. Completion of every instruction (O35) and the one fault of the tick (O46, O47). -/

namespace Sys2Proof.Proofs

open Sys2Proof Sys2Proof.Machine

/-- Settles O35: each mnemonic's operation completes on the operands of its rows (R160). -/
theorem everyInstructionCompletes : Obligations.EveryInstructionCompletes := by
  unfold Obligations.EveryInstructionCompletes
  exact exec_completes

/-- A tick faults exactly at an instruction boundary whose byte has no table entry, since no instruction does (R161). -/
theorem tick_fault {p : Profile} {s : State} {f : Fault} : tick p s = .fault f ↔
    s.CR = 0 ∧ lookup p (s.read s.PC) = none ∧ f = .undefinedOpcode (s.read s.PC) s.PC := by
  rw [← decodeAt_eq_none_iff p _ (s.read (s.PC + 1)) (s.read (s.PC + 2)), ← decodedAt]
  by_cases hidle : s.CR = 0
  · rw [tick_idle hidle]
    cases hdecode : decodedAt p s with
    | none => simp [idleTick_of_undefined hdecode, hidle, eq_comm]
    | some i =>
      obtain ⟨t, ht⟩ := exec_completes i s
      simp [idleTick_of_decoded hdecode, ht]
  · simp [tick_running hidle, hidle]

theorem tick_ne_refused (p : Profile) (s : State) (r : Refusal) : tick p s ≠ .refused r := by
  by_cases hidle : s.CR = 0
  · rw [tick_idle hidle]
    cases hdecode : decodedAt p s with
    | none => simp [idleTick_of_undefined hdecode]
    | some i =>
      obtain ⟨t, ht⟩ := exec_completes i s
      simp [idleTick_of_decoded hdecode, ht]
  · simp [tick_running hidle]

/-- A faulting tick leaves the state before it (R161). -/
theorem afterTick_of_fault {p : Profile} {s : State} {f : Fault} (h : tick p s = .fault f) :
    afterTick p s = s := by
  simp [afterTick, h]

/-- Settles O46: when a tick faults, with what, and that it changes nothing (R161). -/
theorem undefinedOpcodeFaults : Obligations.UndefinedOpcodeFaults := by
  unfold Obligations.UndefinedOpcodeFaults
  exact fun p s => ⟨fun _ => tick_fault, fun _ => afterTick_of_fault, tick_ne_refused p s⟩

/-- Settles O47: the state after a fault is the one that faulted, and a run stops at its first fault (R162). -/
theorem faultRepeatsAndSticks : Obligations.FaultRepeatsAndSticks := by
  unfold Obligations.FaultRepeatsAndSticks
  intro p s f hfault
  refine ⟨by rwa [afterTick_of_fault hfault], fun init before rest t hbefore => ?_⟩
  have htick : tick p s = .fault f := hfault
  simp [hostRun_append, hbefore, hostRun, htick]

end Sys2Proof.Proofs
end

section
/-! PROOFS. Construction and reset (O53, O56, O60). -/

namespace Sys2Proof.Proofs

open Sys2Proof Sys2Proof.Machine

/-- The initial `PC` is the little-endian word at the reset vector (R180). -/
theorem resetTarget_mem (s : State) : resetTarget s.mem =
    BitVec.ofNat 16 ((s.read 0xFFFC).toNat + 256 * (s.read 0xFFFD).toNat) := w16_eq ..

/-- Settles O56: what a reset writes, and its two reads, low byte first (R180). -/
theorem resetReinitialises : Obligations.ResetReinitialises := by
  unfold Obligations.ResetReinitialises
  refine ⟨fun p s => ?state, rfl, fun _ _ _ => rfl, fun p t => ?reads⟩
  case state =>
    rw [← resetTarget_mem]
    rfl
  case reads =>
    simp only [resetLogged, memRead, Logged.onState, List.append_assoc]
    rfl

theorem construct_inv {p : Init} {m : Memory} (hm : m.wf) (hCR : p.CR ≤ 6) : (construct p m).Inv :=
  ⟨hm, hCR⟩

/-- Settles O53: the default construction on a memory with nothing listed, and the invariant of every construction. -/
theorem resetMeetsInvariant : Obligations.ResetMeetsInvariant := by
  unfold Obligations.ResetMeetsInvariant
  exact ⟨rfl, rfl, construct_inv reset_mem_wf (by decide), fun _ _ => construct_inv⟩

/-- Settles O60: a reset depends on the memory and the `INIT` values alone (R180, R181, R187). -/
theorem resetRepeatsConstruction : Obligations.ResetRepeatsConstruction := by
  unfold Obligations.ResetRepeatsConstruction
  intro p init m acts u
  refine ⟨rfl, fun hrun => ?_⟩
  have hrun : hostRun p init acts (construct init m) = .next u := hrun
  rw [hostSession, hostRun_append, hrun]
  rfl

end Sys2Proof.Proofs
end

section
/-! PROOFS. The step at an instruction boundary is the decoded instruction's `exec` (O44), so a placed word runs next
(O59). -/

namespace Sys2Proof.Proofs

open Sys2Proof Sys2Proof.Machine

theorem step_of_decoded {s : State} {i : Instr} (hidle : s.CR = 0)
    (h : decodedAt Config.profile s = some i) : step s = exec i s :=
  (tick_idle hidle).trans (idleTick_of_decoded h)

/-- Settles O44: the bytes at `PC` that decode select the instruction the step runs (R142, R149). -/
theorem stepRunsDecodedInstruction : Obligations.StepRunsDecodedInstruction := by
  unfold Obligations.StepRunsDecodedInstruction
  intro s i rest hidle hbytes
  obtain ⟨hdecode, -⟩ := decode_cons_eq_instr.mp hbytes
  exact ⟨(decodeAt_eq_some hdecode).1, step_of_decoded hidle hdecode⟩

section Placed
variable (s : State) (nbits w : Nat)

/-- Placing a word changes the bytes at `PC`, `PC + 1` and `PC + 2` alone. -/
theorem withFetchWord_read (b : Word) : (s.withFetchWord nbits w).read b =
    if b = s.PC + 2 then tableByte nbits w 2 else if b = s.PC + 1 then tableByte nbits w 1
    else if b = s.PC then tableByte nbits w 0 else s.read b := by
  simp only [State.withFetchWord, placeWord, State.setCR_read, State.read_write]

/-- The bytes of a placed word are those it is made of: they lie at three different addresses. -/
theorem decodedAt_withFetchWord (p : Profile) : decodedAt p (s.withFetchWord nbits w) =
    decodeAt p (tableByte nbits w 0) (tableByte nbits w 1) (tableByte nbits w 2) := by
  have h01 : s.PC ≠ s.PC + 1 := by bv_omega
  have h02 : s.PC ≠ s.PC + 2 := by bv_omega
  have h12 : s.PC + 1 ≠ s.PC + 2 := by bv_omega
  have hPC : (s.withFetchWord nbits w).PC = s.PC := rfl
  simp only [decodedAt, hPC, withFetchWord_read, h01, h02, h12, if_true, if_false]

end Placed

/-- Settles O59: the next tick fetches the placed word, and the rest of the state is as it was (R142; log 5). -/
theorem placedWordRunsNext : Obligations.PlacedWordRunsNext := by
  unfold Obligations.PlacedWordRunsNext
  intro s nbits w i hword
  refine ⟨step_of_decoded rfl ((decodedAt_withFetchWord ..).trans hword), fun b h0 h1 h2 => ?_, rfl⟩
  rw [withFetchWord_read, if_neg h2, if_neg h1, if_neg h0]

end Sys2Proof.Proofs
end

section
/-! PROOFS. Where a resolution can lie and when it crosses a page (O11). -/

namespace Sys2Proof.Proofs

open Sys2Proof Sys2Proof.Machine

theorem zext16_lt (b : Byte) : (zext16 b).toNat < 256 := by
  rw [zext16, BitVec.toNat_setWidth_of_le (by decide)]
  exact b.isLt

/-- An indexed address leaves its page exactly if the low byte's sum carries (R88, R89, R91). -/
theorem low_carry_of_indexed_crossed {w : Word} {ix : Byte} (h : (indexed w ix).crossed = true) :
    255 < w.toNat % 256 + ix.toNat :=
  of_decide_eq_true ((indexed_crossed w ix).symm.trans h)

/-- Settles O11: zero-page addresses and pointers wrap in the zero page, and only indexing a word or a branch's
displacement can leave a page (R84 to R91, R93, R252). -/
theorem resolutionStaysInPage : Obligations.ResolutionStaysInPage := by
  unfold Obligations.ResolutionStaysInPage
  refine ⟨?zeroPage, ?pointer, ?crossed⟩
  case zeroPage =>
    intro b s
    simp only [List.forall_mem_cons]
    exact ⟨⟨_, rfl, zext16_lt _⟩, ⟨_, rfl, zext16_lt _⟩, ⟨_, rfl, zext16_lt _⟩, nofun⟩
  case pointer =>
    intro t
    simp only [List.forall_mem_cons, resolveMode, fetch8_eq, readZeroPageWord_eq, List.append_assoc]
    exact ⟨⟨_, _, rfl, zext16_lt _, zext16_lt _⟩, ⟨_, _, rfl, zext16_lt _, zext16_lt _⟩, nofun⟩
  case crossed =>
    intro arg s hcrossed
    cases arg with
    | abx w => exact .inl ⟨w, rfl, low_carry_of_indexed_crossed hcrossed⟩
    | aby w => exact .inr (.inl ⟨w, rfl, low_carry_of_indexed_crossed hcrossed⟩)
    | izy b => exact .inr (.inr (.inl ⟨b, rfl, low_carry_of_indexed_crossed hcrossed⟩))
    | rel d => exact .inr (.inr (.inr ⟨d, rfl⟩))
    | _ => cases hcrossed

end Sys2Proof.Proofs
end

section
/-! PROOFS. The exact arithmetic of ADC and SBC (O14), and that SBC undoes ADC (O15). -/

namespace Sys2Proof.Proofs

open Sys2Proof Sys2Proof.Machine Sys2Proof.Claim

theorem b2n_le_one (c : Bool) : b2n c ≤ 1 := by cases c <;> decide

theorem b2n_not (c : Bool) : b2n (!c) = 1 - b2n c := by cases c <;> rfl

theorem b2n_inj {c d : Bool} : b2n c = b2n d ↔ c = d := by cases c <;> cases d <;> decide

theorem b2n_decide (p : Prop) [Decidable p] : b2n (decide p) = if p then 1 else 0 := by
  simp [b2n]

theorem and_sign_bne_zero (v : Byte) : (v &&& 0x80#8 != 0x00#8) = v.msb := by
  have htwoPow : v &&& 0x80#8 = if v.getLsbD 7 then BitVec.twoPow 8 7 else 0x00#8 :=
    BitVec.and_twoPow v 7
  rw [htwoPow, BitVec.msb_eq_getLsbD_last]
  cases v.getLsbD 7 <;> rfl

theorem signed8_not (v : Byte) : signed8 (~~~v) = -1 - signed8 v := by
  have hv := v.isLt
  simp only [signed8, BitVec.toNat_not]
  omega

section Sums
variable (a m : Byte) (c : Bool)

/-- The carry is the ninth bit of the sum (R101). -/
theorem addBytes_exact : (addBytes a m c).result.toNat + 256 * b2n (addBytes a m c).carry =
    a.toNat + m.toNat + b2n c := by
  have ha := a.isLt
  have hm := m.isLt
  have hc := b2n_le_one c
  simp only [addBytes, BitVec.toNat_ofNat, b2n_decide]
  split <;> omega

/-- The overflow flag says that the result's sign differs from that of both operands (R101). -/
theorem addBytes_overflow : (addBytes a m c).overflow =
    ((a.msb ^^ (addBytes a m c).result.msb) && (m.msb ^^ (addBytes a m c).result.msb)) := by
  rw [← BitVec.msb_xor, ← BitVec.msb_xor, ← BitVec.msb_and, ← and_sign_bne_zero]
  rfl

/-- The result has the sign that neither operand has exactly if the signed sum is out of range (R101). -/
theorem addBytes_overflow_iff : (addBytes a m c).overflow = true ↔
    ¬(-128 ≤ signed8 a + signed8 m + b2n c ∧ signed8 a + signed8 m + b2n c ≤ 127) := by
  have hexact := addBytes_exact a m c
  have hc := b2n_le_one c
  rw [addBytes_overflow]
  generalize (addBytes a m c).result = r at hexact ⊢
  have ha := a.isLt
  have hm := m.isLt
  have hr := r.isLt
  simp only [BitVec.msb_eq_decide, signed8, Bool.and_eq_true, bne_iff_ne, ne_eq, decide_eq_decide]
  omega

end Sums

/-- Settles O14: the exact sum, and the difference as the sum with the one's complement (R101, R102, R103). -/
theorem addSubtractSignedOverflow : Obligations.AddSubtractSignedOverflow := by
  unfold Obligations.AddSubtractSignedOverflow
  intro a m c
  refine ⟨addBytes_exact a m c, addBytes_overflow_iff a m c, ?difference, ?differenceOverflow⟩
  case difference =>
    have hexact := addBytes_exact a (~~~m) c
    have hm := m.isLt
    rw [BitVec.toNat_not] at hexact
    rw [subBytes]
    omega
  case differenceOverflow =>
    rw [subBytes, addBytes_overflow_iff, signed8_not]
    omega

/-- The byte law of C1: subtracting with the complemented carry leaves the first operand and the complement of the carry
out. -/
theorem subBytes_addBytes (a m : Byte) (c : Bool) :
    (subBytes (addBytes a m c).result m (!c)).result = a ∧
      (subBytes (addBytes a m c).result m (!c)).carry = !(addBytes a m c).carry := by
  have hadd := addBytes_exact a m c
  have hsub := addBytes_exact (addBytes a m c).result (~~~m) (!c)
  rw [← subBytes, BitVec.toNat_not, b2n_not] at hsub
  generalize subBytes (addBytes a m c).result m (!c) = q at hsub ⊢
  have ha := a.isLt
  have hm := m.isLt
  have hc := b2n_le_one c
  have hq := q.result.isLt
  have hcarry := b2n_le_one (addBytes a m c).carry
  have hcarry' := b2n_le_one q.carry
  rw [← BitVec.toNat_inj, ← b2n_inj, b2n_not]
  omega

/-- What a read-only instruction answers on an operand whose value is known (R94). -/
theorem exec_of_readOnly_value {i : Instr} {f : Byte → State → State} {m : Byte} {s : State}
    (h : meaningOf i.mnemonic = .readOnly f) (hm : operandValue i s = some m) :
    exec i s = .next ((f m (past i s)).setCR (costOf i s 0 - 1)) := by
  obtain ⟨m', hm', hexec⟩ := exec_of_readOnly h s
  cases hm.symm.trans hm'
  exact hexec

/-- Settles O15: the law of C1 in the machine, through the immediate forms (R101, R102). -/
theorem sbcUndoesAdc : Obligations.SbcUndoesAdc := by
  unfold Obligations.SbcUndoesAdc
  intro s m
  exact ⟨_, _, exec_of_readOnly_value (i := .adcImm m) rfl rfl,
    exec_of_readOnly_value (i := .sbcImm m) rfl rfl, subBytes_addBytes s.A m s.C⟩

end Sys2Proof.Proofs
end

section
/-! SUPPORT. ROL and ROR as turns of the ring of nine bits that a byte and the carry make (44_shift_rotate.md section 3,
90_conflicts.md C2). -/

namespace Sys2Proof.Proofs

open Sys2Proof Sys2Proof.Machine Sys2Proof.Claim

/-- ROL on a byte and a carry together. -/
def rotateLeft (x : Shifted) : Shifted := rol x.result x.carryOut

/-- ROR on a byte and a carry together. -/
def rotateRight (x : Shifted) : Shifted := ror x.result x.carryOut

/-- Bit `k` of the ring, counted around it: the byte's bits are 0 to 7, the carry is bit 8. -/
def ringBit (x : Shifted) (k : Nat) : Bool :=
  if k % 9 = 8 then x.carryOut else x.result.getLsbD (k % 9)

theorem eq_of_ringBit_eq {x y : Shifted} (h : ∀ k, ringBit x k = ringBit y k) : x = y := by
  have hcarry : x.carryOut = y.carryOut := h 8
  have hresult : x.result = y.result := BitVec.eq_of_getLsbD_eq fun j hj => by
    have hmod : j % 9 = j := Nat.mod_eq_of_lt (by omega)
    simpa [ringBit, hmod, Nat.ne_of_lt hj] using h j
  cases x
  cases y
  simp_all

/-- `f` takes every bit of the ring from `d` places further. -/
def Turns (f : Shifted → Shifted) (d : Nat) : Prop := ∀ x k, ringBit (f x) k = ringBit x (k + d)

theorem turns_id : Turns id 0 := fun _ _ => rfl

theorem Turns.comp {f g : Shifted → Shifted} {d e : Nat} (hf : Turns f d) (hg : Turns g e) :
    Turns (f ∘ g) (d + e) := fun x k => by
  rw [Function.comp_apply, hf, hg, Nat.add_assoc]

theorem Turns.iterate {f : Shifted → Shifted} {d : Nat} (hf : Turns f d) (n : Nat) :
    Turns (iterate f n) (n * d) := by
  induction n with
  | zero => exact fun x k => by rw [Nat.zero_mul, Nat.add_zero, Claim.iterate]
  | succ n ih => exact fun x k => by rw [Claim.iterate, ih, hf, Nat.succ_mul, Nat.add_assoc]

/-- Two turns that differ by whole rounds of the ring are equal. -/
theorem Turns.eq {f g : Shifted → Shifted} {d e : Nat} (hf : Turns f d) (hg : Turns g e)
    (h : d % 9 = e % 9) (x : Shifted) : f x = g x := eq_of_ringBit_eq fun k => by
  have hk : (k + d) % 9 = (k + e) % 9 := by omega
  rw [hf, hg, ringBit, ringBit, hk]

theorem getLsbD_carry (c : Bool) (j : Nat) :
    (BitVec.ofNat 8 (b2n c)).getLsbD j = (decide (j = 0) && c) := by
  cases c with
  | false => simp [b2n]
  | true => simp [b2n, BitVec.getLsbD_one]

/-- The old carry enters at bit 0 (R133). -/
theorem getLsbD_rol (v : Byte) (c : Bool) {j : Nat} (hj : j < 8) :
    (rol v c).result.getLsbD j = if j = 0 then c else v.getLsbD (j - 1) := by
  simp only [rol, BitVec.getLsbD_or, BitVec.getLsbD_shiftLeft, getLsbD_carry, hj]
  by_cases h0 : j = 0
  · simp [h0]
  · simp [h0]

/-- The old carry enters at bit 7 (R134). -/
theorem getLsbD_ror (v : Byte) (c : Bool) {j : Nat} (hj : j < 8) :
    (ror v c).result.getLsbD j = if j = 7 then c else v.getLsbD (j + 1) := by
  simp only [ror, BitVec.getLsbD_or, BitVec.getLsbD_ushiftRight, BitVec.getLsbD_shiftLeft,
    getLsbD_carry, hj, Nat.add_comm 1 j]
  by_cases h7 : j = 7
  · simp [h7]
  · have hlow : j < 7 := by omega
    simp [h7, hlow]

/-- ROL takes each bit from the place before it, which is eight places further around the ring. -/
theorem turns_rotateLeft : Turns rotateLeft 8 := fun x k => by
  by_cases hcarry : k % 9 = 8
  · have hfrom : (k + 8) % 9 = 7 := by omega
    simp [ringBit, hcarry, hfrom, rotateLeft, rol, bit]
  · have hlt : k % 9 < 8 := by omega
    simp only [ringBit, hcarry, rotateLeft, getLsbD_rol _ _ hlt, if_false]
    by_cases h0 : k % 9 = 0
    · have hfrom : (k + 8) % 9 = 8 := by omega
      simp [h0, hfrom]
    · have hfrom : (k + 8) % 9 = k % 9 - 1 := by omega
      have hne : k % 9 - 1 ≠ 8 := by omega
      simp [h0, hfrom, hne]

/-- ROR takes each bit from the place after it. -/
theorem turns_rotateRight : Turns rotateRight 1 := fun x k => by
  by_cases hcarry : k % 9 = 8
  · have hfrom : (k + 1) % 9 = 0 := by omega
    simp [ringBit, hcarry, hfrom, rotateRight, ror, bit]
  · have hlt : k % 9 < 8 := by omega
    have hfrom : (k + 1) % 9 = k % 9 + 1 := by omega
    simp only [ringBit, hcarry, hfrom, rotateRight, getLsbD_ror _ _ hlt, if_false]
    by_cases h7 : k % 9 = 7
    · simp [h7]
    · have hne : k % 9 + 1 ≠ 8 := by omega
      simp [h7, hne]

theorem rotateRight_rotateLeft (x : Shifted) : rotateRight (rotateLeft x) = x :=
  (turns_rotateRight.comp turns_rotateLeft).eq turns_id rfl x

theorem rotateLeft_rotateRight (x : Shifted) : rotateLeft (rotateRight x) = x :=
  (turns_rotateLeft.comp turns_rotateRight).eq turns_id rfl x

theorem iterate_rotateLeft_nine (x : Shifted) : iterate rotateLeft 9 x = x :=
  (turns_rotateLeft.iterate 9).eq turns_id rfl x

theorem iterate_rotateRight_nine (x : Shifted) : iterate rotateRight 9 x = x :=
  (turns_rotateRight.iterate 9).eq turns_id rfl x

theorem iterate_rotateLeft_eight (x : Shifted) : iterate rotateLeft 8 x = rotateRight x :=
  (turns_rotateLeft.iterate 8).eq turns_rotateRight rfl x

theorem iterate_rotateRight_eight (x : Shifted) : iterate rotateRight 8 x = rotateLeft x :=
  (turns_rotateRight.iterate 8).eq turns_rotateLeft rfl x

/-- The ring read as the number `result + 256 * carry`: ROL doubles the byte and adds the old carry. -/
theorem rotateLeft_exact (x : Shifted) :
    (rotateLeft x).result.toNat + 256 * b2n (rotateLeft x).carryOut =
      2 * x.result.toNat + b2n x.carryOut := by
  have hresult : (rotateLeft x).result.toNat = (2 * x.result.toNat + b2n x.carryOut) % 256 := by
    have hdisjoint : 2 * x.result.toNat + b2n x.carryOut = 2 * x.result.toNat ||| b2n x.carryOut :=
      Nat.two_pow_add_eq_or_of_lt (i := 1) (Nat.lt_succ_of_le (b2n_le_one _)) _
    rw [rotateLeft, rol_eq, hdisjoint, Nat.shiftLeft_eq, Nat.mul_comm, BitVec.toNat_ofNat]
    exact Nat.mod_mod ..
  have hcarry : (rotateLeft x).carryOut = decide (128 ≤ x.result.toNat) :=
    (BitVec.msb_eq_getLsbD_last _).symm.trans (BitVec.msb_eq_decide _)
  have hx := x.result.isLt
  have hc := b2n_le_one x.carryOut
  rw [hresult, hcarry, b2n_decide]
  split <;> omega

/-- Only the all-zero and the all-one ring are unchanged by a turn of one place. -/
theorem rotateLeft_eq_self_iff {x : Shifted} :
    rotateLeft x = x ↔ (x.result = 0 ∧ x.carryOut = false) ∨ (x.result = 0xFF ∧ x.carryOut = true) := by
  obtain ⟨v, c⟩ := x
  constructor
  · intro h
    have hexact := rotateLeft_exact ⟨v, c⟩
    rw [h] at hexact
    cases c with
    | false => exact .inl ⟨BitVec.eq_of_toNat_eq (by simp [b2n] at hexact ⊢; omega), rfl⟩
    | true => exact .inr ⟨BitVec.eq_of_toNat_eq (by simp [b2n] at hexact ⊢; omega), rfl⟩
  · rintro (⟨rfl, rfl⟩ | ⟨rfl, rfl⟩)
    · rfl
    · rfl

theorem iterate_rotateRight_eight_eq_self_iff (x : Shifted) : iterate rotateRight 8 x = x ↔
    (x.result = 0 ∧ x.carryOut = false) ∨ (x.result = 0xFF ∧ x.carryOut = true) := by
  rw [iterate_rotateRight_eight, rotateLeft_eq_self_iff]

theorem iterate_rotateLeft_eight_eq_self_iff (x : Shifted) : iterate rotateLeft 8 x = x ↔
    (x.result = 0 ∧ x.carryOut = false) ∨ (x.result = 0xFF ∧ x.carryOut = true) := by
  rw [iterate_rotateLeft_eight, ← rotateLeft_eq_self_iff]
  exact ⟨fun h => by rw [← h, rotateLeft_rotateRight, h], fun h => by rw [← h, rotateRight_rotateLeft, h]⟩

end Sys2Proof.Proofs
end

section
/-! PROOFS. The laws of the rotates and shifts (O22), for bytes and in the machine. -/

namespace Sys2Proof.Proofs

open Sys2Proof Sys2Proof.Machine Sys2Proof.Claim

theorem asl_eq_rol (v : Byte) (c : Bool) : asl v c = rol v false := by
  simp [asl, rol, b2n]

theorem lsr_eq_ror (v : Byte) (c : Bool) : lsr v c = ror v false := by
  simp [lsr, ror, b2n]

/-- A shift of an absolute address changes memory at that address alone (R135). -/
theorem exec_of_shift_abs {i : Instr} {f : Byte → Bool → Shifted} {w : Word}
    (h : meaningOf i.mnemonic = .shift f) (harg : i.arg = .abs w) (s : State) :
    ∃ t, exec i s = .next t ∧ t.A = s.A ∧ t.C = (f (s.read w) s.C).carryOut ∧
      ∀ b, t.read b = if b = w then (f (s.read w) s.C).result else s.read b := by
  obtain ⟨m, u, hm, hu, hexec⟩ := exec_of_shift h s
  have hoperand : (operandOf i s).operand = .addr w := by simp [operandOf, harg, resolve]
  obtain rfl : s.read w = m := by simpa [operandValue, hoperand] using hm
  obtain rfl : (past i s).write w (f (s.read w) s.C).result = u := by
    simpa [written, hoperand] using hu
  refine ⟨_, hexec, by simp [past], by simp, fun b => ?_⟩
  rw [State.setCR_read, setZN_read, State.setC_read, State.read_write, past, State.advancePC_read]

/-- Settles O22: turns of the ring of nine bits compose by adding their places modulo nine (R136, C2). -/
theorem rotationLaws : Obligations.RotationLaws := by
  unfold Obligations.RotationLaws
  refine ⟨fun v c => ⟨rotateRight_rotateLeft ⟨v, c⟩, rotateLeft_rotateRight ⟨v, c⟩,
    iterate_rotateLeft_nine ⟨v, c⟩, iterate_rotateRight_nine ⟨v, c⟩,
    iterate_rotateLeft_eight_eq_self_iff ⟨v, c⟩, iterate_rotateRight_eight_eq_self_iff ⟨v, c⟩,
    asl_eq_rol v c, lsr_eq_ror v c, ?doubles, ?halves⟩, fun s w => ?machine⟩
  case doubles =>
    rw [asl_eq_rol]
    exact rotateLeft_exact ⟨v, false⟩
  case halves =>
    have hexact := rotateLeft_exact (rotateRight ⟨v, false⟩)
    rw [rotateLeft_rotateRight] at hexact
    rw [lsr_eq_ror]
    exact hexact.symm
  case machine =>
    obtain ⟨t, hrol, htA, htC, htread⟩ := exec_of_shift_abs (i := .rolAbs w) (f := rol) rfl rfl s
    obtain ⟨u, hror, huA, huC, huread⟩ := exec_of_shift_abs (i := .rorAbs w) (f := ror) rfl rfl t
    have hring : ror (t.read w) t.C = ⟨s.read w, s.C⟩ := by
      rw [htread, if_pos rfl, htC]
      exact rotateRight_rotateLeft ⟨s.read w, s.C⟩
    rw [hring] at huC huread
    refine ⟨t, u, hrol, hror, huA.trans htA, huC, fun b => ?_⟩
    rw [huread, htread]
    by_cases hb : b = w
    · rw [if_pos hb, hb]
    · rw [if_neg hb, if_neg hb]

end Sys2Proof.Proofs
end

section
/-! SUPPORT. What a property of states needs in order to hold of the state every instruction leaves: it holds of what the
effect of the instruction's operation leaves, and loading the countdown keeps it. -/

namespace Sys2Proof.Proofs

open Sys2Proof Sys2Proof.Machine Sys2Proof.Claim

/-- Whatever the operation of `meaning` leaves when it runs `i` from `s`, before it loads the countdown, has `P`. -/
def Leaves (P : State → Prop) (i : Instr) (s : State) (meaning : Meaning) : Prop :=
  match meaning with
  | .readOnly f => ∀ m, P (f m (past i s))
  | .shift _ => ∀ v c u, written (operandOf i s).operand v (past i s) = some u → P (setZN v (u.setC c))
  | .modify _ => ∀ a v, P (setZN v ((past i s).write a v))
  | .store _ => ∀ a v, P ((past i s).write a v)
  | .implied f => P (f (past i s))
  | .jump f => ∀ a, P (f a (past i s))
  | .branch _ => P (past i s) ∧ ∀ a, P ((past i s).setPC a)

theorem exec_leaves {P : State → Prop} {i : Instr} {s t : State}
    (hCR : ∀ u n, P u → P (u.setCR n)) (hleaves : Leaves P i s (meaningOf i.mnemonic))
    (ht : exec i s = .next t) : P t := by
  cases h : meaningOf i.mnemonic with
  | readOnly f =>
    rw [h] at hleaves
    obtain ⟨m, -, hexec⟩ := exec_of_readOnly h s
    cases hexec.symm.trans ht
    exact hCR _ _ (hleaves m)
  | shift f =>
    rw [h] at hleaves
    obtain ⟨m, u, -, hu, hexec⟩ := exec_of_shift h s
    cases hexec.symm.trans ht
    exact hCR _ _ (hleaves _ _ u hu)
  | modify f =>
    rw [h] at hleaves
    obtain ⟨a, -, hexec⟩ := exec_of_modify h s
    cases hexec.symm.trans ht
    exact hCR _ _ (hleaves a _)
  | store v =>
    rw [h] at hleaves
    obtain ⟨a, -, hexec⟩ := exec_of_store h s
    cases hexec.symm.trans ht
    exact hCR _ _ (hleaves a _)
  | implied f =>
    rw [h] at hleaves
    cases (exec_of_implied h s).symm.trans ht
    exact hCR _ _ hleaves
  | jump f =>
    rw [h] at hleaves
    obtain ⟨a, -, hexec⟩ := exec_of_jump h s
    cases hexec.symm.trans ht
    exact hCR _ _ (hleaves a)
  | branch cond =>
    rw [h] at hleaves
    obtain ⟨hfall, htaken⟩ := hleaves
    obtain ⟨d, -, hexec⟩ := exec_of_branch h s
    cases hexec.symm.trans ht
    split
    · exact hCR _ _ (htaken _)
    · exact hCR _ _ hfall

end Sys2Proof.Proofs
end

section
/-! PROOFS. The register frame (O37), and what no CORE tick changes (O39). -/

namespace Sys2Proof.Proofs

open Sys2Proof Sys2Proof.Machine Sys2Proof.Claim

/-- From `s` to `u` no register changes but those in `names`. -/
def KeepsRegisters (names : List RegisterName) (s u : State) : Prop :=
  (.A ∉ names → u.A = s.A) ∧ (.X ∉ names → u.X = s.X) ∧
  (.Y ∉ names → u.Y = s.Y) ∧ (.SP ∉ names → u.SP = s.SP)

section Past
variable (i : Instr) (s : State)

@[simp] theorem past_A : (past i s).A = s.A := s.advancePC_A _
@[simp] theorem past_X : (past i s).X = s.X := s.advancePC_X _
@[simp] theorem past_Y : (past i s).Y = s.Y := s.advancePC_Y _
@[simp] theorem past_SP : (past i s).SP = s.SP := s.advancePC_SP _

end Past

/-- Only mode ACC resolves to the accumulator (R82). -/
theorem mode_eq_acc_of_operandOf {i : Instr} {s : State} (h : (operandOf i s).operand = .acc) :
    i.mode = .acc := by
  unfold operandOf at h
  unfold Instr.mode
  cases harg : i.arg with
  | acc => rfl
  | _ => rw [harg] at h; cases h

/-- A shift writes A in mode ACC only (R130). -/
theorem leaves_keepsRegisters_of_shift {i : Instr} {f : Byte → Bool → Shifted} (s : State)
    (h : registersWritten i = if i.mode = .acc then [.A] else []) :
    Leaves (KeepsRegisters (registersWritten i) s) i s (.shift f) := by
  intro v c u hu
  obtain ⟨ho, rfl⟩ | ⟨a, -, rfl⟩ := operandWrite_next.mp (written_eq_some.mp hu)
  · simp [KeepsRegisters, h, mode_eq_acc_of_operandOf ho]
  · simp [KeepsRegisters]

/-- Each mnemonic's effect keeps the registers its rule does not list. -/
theorem leaves_keepsRegisters (i : Instr) (s : State) :
    Leaves (KeepsRegisters (registersWritten i) s) i s (meaningOf i.mnemonic) := by
  cases hm : i.mnemonic with
  | asl | lsr | rol | ror =>
    exact leaves_keepsRegisters_of_shift s (by rw [registersWritten, hm])
  | adc | sbc | and | ora | eor =>
    simp [Leaves, meaningOf, KeepsRegisters, registersWritten, hm, adcEffect, sbcEffect, andEffect,
      oraEffect, eorEffect, storeA]
  | lda | ldx | ldy =>
    simp [Leaves, meaningOf, KeepsRegisters, registersWritten, hm, ldaEffect, ldxEffect, ldyEffect]
  | cpa | cpx | cpy | bit =>
    simp [Leaves, meaningOf, KeepsRegisters, cpaEffect, cpxEffect, cpyEffect]
  | jsr | rts | pha | pla =>
    simp [Leaves, meaningOf, KeepsRegisters, registersWritten, hm, jsrEffect, rtsEffect, plaEffect]
  | _ => simp [Leaves, meaningOf, KeepsRegisters, registersWritten, hm]

/-- An instruction that completes has kept the registers its rule does not list. -/
theorem exec_keepsRegisters {i : Instr} {s t : State} (ht : exec i s = .next t) :
    KeepsRegisters (registersWritten i) s t :=
  exec_leaves (fun _ _ h => h) (leaves_keepsRegisters i s) ht

/-- Settles O37: the frame of A, X, Y and SP. -/
theorem registerFrame : Obligations.RegisterFrame := by
  unfold Obligations.RegisterFrame
  intro i s
  obtain ⟨t, ht⟩ := exec_completes i s
  exact ⟨t, ht, exec_keepsRegisters ht⟩

/-- A CORE instruction writes no register but A, and neither I nor D (R12 to R14, R24). -/
theorem writes_of_isCore {i : Instr} (hcore : i.mnemonic.isCore = true) :
    (registersWritten i = [.A] ∨ registersWritten i = []) ∧
      .I ∉ flagsWritten i.mnemonic ∧ .D ∉ flagsWritten i.mnemonic := by
  cases hm : i.mnemonic with
  | asl | lsr | rol | ror =>
    by_cases hacc : i.mode = .acc
    · simp [registersWritten, hm, hacc, flagsWritten]
    · simp [registersWritten, hm, hacc, flagsWritten]
  | adc | sbc | and | ora | cpa | cpx | cpy => simp [registersWritten, hm, flagsWritten]
  | _ => simp [hm, Mnemonic.isCore] at hcore

theorem exec_keeps_of_isCore {i : Instr} {s t : State} (hcore : i.mnemonic.isCore = true)
    (ht : exec i s = .next t) :
    t.X = s.X ∧ t.Y = s.Y ∧ t.SP = s.SP ∧ t.I = s.I ∧ t.D = s.D := by
  obtain ⟨hregisters, hI, hD⟩ := writes_of_isCore hcore
  obtain ⟨-, hX, hY, hSP⟩ := exec_keepsRegisters ht
  have hnot {n : RegisterName} (hn : n ≠ .A) : n ∉ registersWritten i := by
    obtain h | h := hregisters <;> simp [h, hn]
  exact ⟨hX (hnot nofun), hY (hnot nofun), hSP (hnot nofun), exec_keeps_flag (n := .I) ht hI,
    exec_keeps_flag (n := .D) ht hD⟩

/-- Settles O39: a CORE tick counts down or runs an instruction that CORE admits (R12 to R14, R24). -/
theorem coreTicksKeepIndexRegisters : Obligations.CoreTicksKeepIndexRegisters := by
  unfold Obligations.CoreTicksKeepIndexRegisters
  intro s t htick
  obtain ⟨-, i, hdecode, hexec⟩ | ⟨-, rfl⟩ := tick_next.mp htick
  · exact exec_keeps_of_isCore (decodeAt_eq_some hdecode).1 hexec
  · exact ⟨rfl, rfl, rfl, rfl, rfl⟩

end Sys2Proof.Proofs
end

section
/-! PROOFS. Where `PC` goes (O41) and what an instruction costs (O42). -/

namespace Sys2Proof.Proofs

open Sys2Proof Sys2Proof.Machine Sys2Proof.Claim

/-- Only branches and jumps write `PC` in their effect (R16). -/
theorem leaves_past_PC {i : Instr} (hbranch : i.mnemonic.opClass ≠ .branch)
    (hjump : i.mnemonic.opClass ≠ .jump) (s : State) :
    Leaves (fun u => u.PC = (past i s).PC) i s (meaningOf i.mnemonic) := by
  cases hm : i.mnemonic with
  | asl | lsr | rol | ror =>
    intro v c u hu
    obtain ⟨-, rfl⟩ | ⟨a, -, rfl⟩ := operandWrite_next.mp (written_eq_some.mp hu)
    · simp
    · simp
  | bpl | bmi | bvc | bvs | bcc | bcs | bne | beq | jmp | jsr | rts =>
    simp [hm, Mnemonic.opClass] at hbranch hjump
  | adc | sbc | and | ora | eor =>
    simp [Leaves, meaningOf, adcEffect, sbcEffect, andEffect, oraEffect, eorEffect, storeA]
  | cpa | cpx | cpy => simp [Leaves, meaningOf, cpaEffect, cpxEffect, cpyEffect]
  | lda | ldx | ldy => simp [Leaves, meaningOf, ldaEffect, ldxEffect, ldyEffect]
  | pla => simp [Leaves, meaningOf, plaEffect]
  | _ => simp [Leaves, meaningOf]

theorem past_PC (i : Instr) (s : State) : (past i s).PC = BitVec.ofNat 16 (s.PC.toNat + i.size) := by
  rw [past, State.advancePC_PC, BitVec.ofNat_add, BitVec.ofNat_toNat, BitVec.setWidth_eq]

theorem length_encode (i : Instr) : (encode i).length = i.size := by
  rw [encode, List.length_cons, length_bytes, Nat.add_comm]
  rfl

theorem size_cases (i : Instr) : i.size = 1 ∨ i.size = 2 ∨ i.size = 3 := by
  unfold Instr.size
  cases i.mode <;> simp [Mode.operandBytes]

/-- Settles O41: `PC` moves past the bytes of the instruction's encoding (R16, R17, R61). -/
theorem pcMovesPastInstruction : Obligations.PcMovesPastInstruction := by
  unfold Obligations.PcMovesPastInstruction
  refine fun i s => ⟨length_encode i, size_cases i, fun hbranch hjump => ?_⟩
  obtain ⟨t, ht⟩ := exec_completes i s
  have hPC : t.PC = (past i s).PC := exec_leaves (fun _ _ h => h) (leaves_past_PC hbranch hjump s) ht
  exact ⟨t, ht, hPC.trans (past_PC i s)⟩

theorem opClass_eq_branch_iff (m : Mnemonic) :
    m.opClass = .branch ↔ ∃ cond, meaningOf m = .branch cond := by
  cases m <;> simp [Mnemonic.opClass, meaningOf]

/-- Only a branch has a condition and with it extra cycles (R201, R254). -/
theorem extraCycles_eq_zero {i : Instr} (h : i.mnemonic.opClass ≠ .branch) (s : State) :
    extraCycles i s = 0 := by
  have hcondition : branchCondition i.mnemonic s = none := by
    cases hm : i.mnemonic with
    | bpl | bmi | bvc | bvs | bcc | bcs | bne | beq => simp [hm, Mnemonic.opClass] at h
    | _ => rfl
  simp [extraCycles, hcondition]

theorem extraCycles_le_two (i : Instr) (s : State) : extraCycles i s ≤ 2 := by
  have hcrossed := b2n_le_one (operandOf i s).crossed
  unfold extraCycles
  split <;> omega

theorem extraCycles_of_branch {i : Instr} {cond : State → Bool}
    (h : meaningOf i.mnemonic = .branch cond) (s : State) :
    extraCycles i s = if cond (past i s) then 1 + b2n (operandOf i s).crossed else 0 := by
  have hcondition : branchCondition i.mnemonic s = some (cond (past i s)) := by
    cases hm : i.mnemonic with
    | bpl | bmi | bvc | bvs | bcc | bcs | bne | beq => rw [hm] at h; cases h; rfl
    | _ => rw [hm] at h; cases h
  simp [extraCycles, hcondition]

/-- Every instruction loads its cost less the tick it runs in (R142, R144, R201). -/
theorem exec_countdown {i : Instr} {s t : State} (ht : exec i s = .next t) :
    t.CR = costOf i s (extraCycles i s) - 1 := by
  have hextra (h : ∀ cond, meaningOf i.mnemonic ≠ .branch cond) : extraCycles i s = 0 :=
    extraCycles_eq_zero (fun hclass => ((opClass_eq_branch_iff _).mp hclass).elim h) s
  cases h : meaningOf i.mnemonic with
  | readOnly f =>
    obtain ⟨m, -, hexec⟩ := exec_of_readOnly h s
    cases hexec.symm.trans ht
    rw [hextra (by simp [h]), State.setCR_CR]
  | shift f =>
    obtain ⟨m, u, -, -, hexec⟩ := exec_of_shift h s
    cases hexec.symm.trans ht
    rw [hextra (by simp [h]), State.setCR_CR]
  | modify f =>
    obtain ⟨a, -, hexec⟩ := exec_of_modify h s
    cases hexec.symm.trans ht
    rw [hextra (by simp [h]), State.setCR_CR]
  | store v =>
    obtain ⟨a, -, hexec⟩ := exec_of_store h s
    cases hexec.symm.trans ht
    rw [hextra (by simp [h]), State.setCR_CR]
  | implied f =>
    cases (exec_of_implied h s).symm.trans ht
    rw [hextra (by simp [h]), State.setCR_CR]
  | jump f =>
    obtain ⟨a, -, hexec⟩ := exec_of_jump h s
    cases hexec.symm.trans ht
    rw [hextra (by simp [h]), State.setCR_CR]
  | branch cond =>
    obtain ⟨a, -, hexec⟩ := exec_of_branch_target h s
    cases hexec.symm.trans ht
    rw [extraCycles_of_branch h]
    split <;> rw [State.setCR_CR]

/-- A row costs at least two cycles and, with what its class can add, at most seven (R66, R203). -/
theorem baseCycles_bounds_of_mem : ∀ e ∈ instructionSet, 2 ≤ e.baseCycles ∧ e.baseCycles ≤ 7 ∧
    (e.mnemonic.opClass = .readOnly → e.baseCycles ≤ 6) ∧
    (e.mnemonic.opClass = .branch → e.baseCycles ≤ 5) := by
  decide +kernel

theorem baseOf_bounds (i : Instr) : 2 ≤ baseOf i ∧ baseOf i ≤ 7 ∧
    (i.mnemonic.opClass = .readOnly → baseOf i ≤ 6) ∧ (i.mnemonic.opClass = .branch → baseOf i ≤ 5) :=
  baseCycles_bounds_of_mem _ (lookup_eq_some (lookup_opcode i)).1

theorem costOf_bounds (i : Instr) (s : State) :
    2 ≤ costOf i s (extraCycles i s) ∧ costOf i s (extraCycles i s) ≤ 7 := by
  obtain ⟨hlow, hhigh, hreadOnlyBase, hbranchBase⟩ := baseOf_bounds i
  by_cases hreadOnly : i.mnemonic.opClass = .readOnly
  · obtain ⟨f, hf⟩ := (opClass_eq_readOnly_iff _).mp hreadOnly
    have hcross := b2n_le_one ((operandOf i s).crossed && true)
    have hbase := hreadOnlyBase hreadOnly
    rw [extraCycles_eq_zero (by simp [hreadOnly]), costOf_of_readOnly hf, cost]
    omega
  · rw [costOf_of_not_readOnly fun f hf => hreadOnly ((opClass_eq_readOnly_iff _).mpr ⟨f, hf⟩)]
    by_cases hbranch : i.mnemonic.opClass = .branch
    · have hbase := hbranchBase hbranch
      have hextra := extraCycles_le_two i s
      omega
    · rw [extraCycles_eq_zero hbranch]
      omega

/-- Settles O42: the countdown an instruction loads, from its row, the page cross and its extra cycles. -/
theorem instructionCost : Obligations.InstructionCost := by
  unfold Obligations.InstructionCost
  intro i s
  obtain ⟨t, ht⟩ := exec_completes i s
  obtain ⟨hlow, hhigh⟩ := costOf_bounds i s
  have hcountdown : t.CR + 1 = costOf i s (extraCycles i s) := by
    rw [exec_countdown ht]
    omega
  rw [← hcountdown] at hlow hhigh
  refine ⟨t, _, ht, lookup_opcode i, ?_, hlow, hhigh⟩
  rw [hcountdown, costOf, lookup_opcode]

end Sys2Proof.Proofs
end

section
/-! PROOFS. The invariant of every tick and host run (O52): canonical memory, and a countdown of at most 6. -/

namespace Sys2Proof.Proofs

open Sys2Proof Sys2Proof.Machine Sys2Proof.Claim

/-- Every effect changes memory by writes and pushes alone, which keep the canonical form. -/
theorem leaves_mem_wf (i : Instr) {s : State} (h : s.mem.wf) :
    Leaves (fun u => u.mem.wf) i s (meaningOf i.mnemonic) := by
  have hpast : (past i s).mem.wf := h
  cases hm : i.mnemonic with
  | asl | lsr | rol | ror =>
    intro v c u hu
    obtain ⟨-, rfl⟩ | ⟨a, -, rfl⟩ := operandWrite_next.mp (written_eq_some.mp hu)
    · exact hpast
    · exact State.write_wf hpast a v
  | inc | dec | sta | stx | sty => exact fun a v => State.write_wf hpast a v
  | pha => exact State.push_wf hpast _
  | jsr =>
    intro a
    rw [jsrEffect, State.setPC_mem]
    exact State.push_wf (State.push_wf hpast _) _
  | bpl | bmi | bvc | bvs | bcc | bcs | bne | beq => exact ⟨hpast, fun _ => hpast⟩
  | adc | sbc | and | ora | eor | cpa | cpx | cpy | bit | lda | ldx | ldy | jmp => exact fun _ => hpast
  | _ => exact hpast

theorem exec_inv {i : Instr} {s t : State} (h : s.mem.wf) (ht : exec i s = .next t) : t.Inv := by
  obtain ⟨-, hhigh⟩ := costOf_bounds i s
  refine ⟨exec_leaves (fun _ _ h => h) (leaves_mem_wf i h) ht, ?_⟩
  rw [exec_countdown ht]
  omega

/-- A tick keeps the canonical form; and it keeps a countdown of at most 6, or loads one. -/
theorem tick_keeps {p : Profile} {s t : State} (h : s.mem.wf) (ht : tick p s = .next t) :
    t.mem.wf ∧ (s.CR ≤ 6 → t.CR ≤ 6) := by
  obtain ⟨-, i, -, hexec⟩ | ⟨-, rfl⟩ := tick_next.mp ht
  · obtain ⟨hmem, hCR⟩ := exec_inv h hexec
    exact ⟨hmem, fun _ => hCR⟩
  · exact ⟨h, fun hCR => (Nat.sub_le ..).trans hCR⟩

/-- So does every other action of the host, with the countdown that a reset takes from `INIT_CR` (R180, R187). -/
theorem hostAct_keeps {p : Profile} {init : Init} {act : HostAction} {s t : State} (h : s.mem.wf)
    (ht : hostAct p init act s = .next t) :
    t.mem.wf ∧ (init.CR ≤ 6 → s.CR ≤ 6 → t.CR ≤ 6) := by
  cases act with
  | tick =>
    obtain ⟨hmem, hCR⟩ := tick_keeps h ht
    exact ⟨hmem, fun _ => hCR⟩
  | reset => cases ht; exact ⟨h, fun hinit _ => hinit⟩
  | writeMemory a v => cases ht; exact ⟨State.write_wf h a v, fun _ hCR => hCR⟩
  | _ => cases ht; exact ⟨h, fun _ hCR => hCR⟩

theorem hostRun_keeps {p : Profile} {init : Init} {acts : List HostAction} {s t : State}
    (h : s.mem.wf) (ht : hostRun p init acts s = .next t) :
    t.mem.wf ∧ (init.CR ≤ 6 → s.CR ≤ 6 → t.CR ≤ 6) := by
  induction acts generalizing s with
  | nil => cases ht; exact ⟨h, fun _ hCR => hCR⟩
  | cons act acts ih =>
    obtain ⟨u, hact, hrun⟩ := hostRun_cons_next.mp ht
    obtain ⟨hmem, hCR⟩ := hostAct_keeps h hact
    obtain ⟨hmem', hCR'⟩ := ih hmem hrun
    exact ⟨hmem', fun hinit hs => hCR' hinit (hCR hinit hs)⟩

/-- Settles O52: the invariant by the tick's two cases, and by induction over a run of host actions. -/
theorem stepKeepsInvariant : Obligations.StepKeepsInvariant := by
  unfold Obligations.StepKeepsInvariant
  intro p s ⟨hmem, hCR⟩
  refine ⟨fun t ht => ?tick, fun init acts t ht => ?run⟩
  case tick =>
    obtain ⟨hmem', hCR'⟩ := tick_keeps hmem ht
    exact ⟨hmem', hCR' hCR⟩
  case run =>
    obtain ⟨hmem', hCR'⟩ := hostRun_keeps hmem ht
    exact ⟨hmem', fun hinit => ⟨hmem', hCR' hinit hCR⟩⟩

end Sys2Proof.Proofs
end

section
/-! PROOFS. What the stack instructions push is what they pull back (O34). -/

namespace Sys2Proof.Proofs

open Sys2Proof Sys2Proof.Machine Sys2Proof.Claim

/-- After JSR memory holds both bytes of the return address, since they lie at different addresses (R264, R269). -/
theorem exec_jsr_pushed (w : Word) (s : State) : ∃ t, exec (.jsr w) s = .next t ∧
    t = { s with SP := s.SP - 2, PC := w, CR := 5, mem := t.mem } ∧
    t.read (stackAddress s.SP) = hi (s.PC + 2) ∧ t.read (stackAddress (s.SP - 1)) = lo (s.PC + 2) := by
  obtain ⟨-, -, hstack⟩ := jsrPushesAndRtsPulls
  obtain ⟨hjsr, -⟩ := hstack w s
  simp only [← stackAddress_eq] at hjsr
  have hne : stackAddress s.SP ≠ stackAddress (s.SP - 1) := fun h => by
    have hSP := stackAddress_inj.mp h
    bv_omega
  refine ⟨_, hjsr, rfl, ?high, ?low⟩
  case high =>
    refine (State.read_write ..).trans ?_
    rw [if_neg hne, State.read_write, if_pos rfl]
  case low =>
    refine (State.read_write ..).trans ?_
    rw [if_pos rfl]

/-- RTS pulls from the two addresses that JSR pushed to, whatever SP was (R264, R265, R269). -/
theorem jsr_rts_roundTrip (w : Word) (s : State) : ∃ t u : State,
    exec (.jsr w) s = .next t ∧ exec .rts t = .next u ∧
      u = { s with PC := s.PC + 3, CR := 5, mem := t.mem } := by
  obtain ⟨t, hjsr, ht, hhigh, hlow⟩ := exec_jsr_pushed w s
  obtain ⟨-, -, hstack⟩ := jsrPushesAndRtsPulls
  obtain ⟨-, hrts⟩ := hstack w t
  have hSP : t.SP = s.SP - 2 := by rw [ht]
  have hSP1 : s.SP - 2 + 1 = s.SP - 1 := by bv_omega
  have hSP2 : s.SP - 2 + 2 = s.SP := by bv_omega
  have hPC : s.PC + 2 + 1 = s.PC + 3 := by bv_omega
  simp only [← stackAddress_eq, hSP, hSP1, hSP2, hhigh, hlow, w16_hi_lo, hPC] at hrts
  refine ⟨t, _, hjsr, hrts, ?_⟩
  rw [ht]

/-- After PHA memory holds A at the address that SP named (R266, R269). -/
theorem exec_pha_pushed (s : State) : ∃ t, exec .pha s = .next t ∧ t.SP = s.SP - 1 ∧
    t.read (stackAddress s.SP) = s.A := by
  obtain ⟨-, -, hstack⟩ := phaPushesAndPlaPulls
  obtain ⟨hpha, -⟩ := hstack s
  simp only [← stackAddress_eq] at hpha
  exact ⟨_, hpha, rfl, (State.read_write ..).trans (if_pos rfl)⟩

/-- PLA pulls from the address that PHA pushed to, whatever SP was (R266, R267, R269). -/
theorem pha_pla_roundTrip (s : State) (v : Byte) : ∃ t u : State,
    exec .pha s = .next t ∧ exec .pla { t with A := v } = .next u ∧
      u.A = s.A ∧ u.SP = s.SP ∧ u.Z = decide (s.A = 0) ∧ u.N = bit s.A 7 := by
  obtain ⟨t, hpha, hSP, hpushed⟩ := exec_pha_pushed s
  obtain ⟨-, -, hstack⟩ := phaPushesAndPlaPulls
  obtain ⟨-, hpla⟩ := hstack { t with A := v }
  have hSP' : t.SP + 1 = s.SP := by
    rw [hSP]
    bv_omega
  have hread : ({ t with A := v } : State).read (stackAddress s.SP) = s.A := hpushed
  simp only [← stackAddress_eq, hSP', hread] at hpla
  exact ⟨t, _, hpha, hpla, rfl, rfl, beq_eq_decide .., rfl⟩

/-- Settles O34: both round trips (R264 to R267). -/
theorem stackRoundTrips : Obligations.StackRoundTrips := by
  unfold Obligations.StackRoundTrips
  exact ⟨jsr_rts_roundTrip, pha_pla_roundTrip⟩

end Sys2Proof.Proofs
end

section
/-! PROOFS. Runs of ticks: the countdown after an Idle tick (O50), the instruction-level step (O51), and a run toward an
address (O58). -/

namespace Sys2Proof.Proofs

open Sys2Proof Sys2Proof.Machine Sys2Proof.Claim

theorem run_succ {s t : State} (h : step s = .next t) (k : Nat) :
    core.run (k + 1) s = core.run k t := by
  have hstep : core.step s = .next t := h
  simp only [Host.Core.run, hstep]

/-- As long as the countdown lasts, each tick takes one from it (R143). -/
theorem run_countdown {t : State} {k : Nat} (h : k ≤ t.CR) :
    core.run k t = .next (t.setCR (t.CR - k)) := by
  induction k generalizing t with
  | zero => rfl
  | succ k ih =>
    have hstep : step t = .next (t.setCR (t.CR - 1)) := tick_running (by omega)
    have hrest : k ≤ (t.setCR (t.CR - 1)).CR := Nat.le_sub_one_of_lt h
    rw [run_succ hstep, ih hrest, State.setCR_CR, Nat.sub_sub, Nat.add_comm]
    rfl

/-- Settles O50: one Idle tick and as many Running ticks as it owes (R145, R147). -/
theorem countdownKeepsResult : Obligations.CountdownKeepsResult := by
  unfold Obligations.CountdownKeepsResult
  intro s t _ hstep k hk
  rw [Nat.add_comm, run_succ hstep, run_countdown hk]
  rfl

/-- At an instruction boundary the instruction-level step is the tick and the Running ticks it owes (R151). -/
theorem instrStep_of_idle {s : State} (hidle : s.CR = 0) :
    instrStep Config.profile s = andThen (step s) fun t => .next (t.setCR 0, 1 + t.CR) := by
  have hstep : step s = idleTick Config.profile s := tick_idle hidle
  simp only [instrStep, hstep, runningTicks_eq, Nat.sub_self]

/-- The instruction that an Idle tick runs costs between 2 and 7 cycles (R144). -/
theorem step_countdown_bounds {s t : State} (hidle : s.CR = 0) (h : step s = .next t) :
    1 ≤ t.CR ∧ t.CR ≤ 6 := by
  obtain ⟨-, i, -, hexec⟩ | ⟨hrunning, -⟩ := tick_next.mp h
  · obtain ⟨hlow, hhigh⟩ := costOf_bounds i s
    rw [exec_countdown hexec]
    omega
  · exact absurd hidle hrunning

/-- Settles O51: `InstrStep` stops where its ticks first meet a boundary, and faults where the first of them does. -/
theorem instrStepIsItsTicks : Obligations.InstrStepIsItsTicks := by
  unfold Obligations.InstrStepIsItsTicks
  intro s hidle
  rw [instrStep_of_idle hidle]
  cases hstep : step s with
  | fault r => simp
  | refused r => simp
  | next t =>
    obtain ⟨hlow, hhigh⟩ := step_countdown_bounds hidle hstep
    refine ⟨fun u n hu => ?_, by simp⟩
    obtain ⟨rfl, rfl⟩ : t.setCR 0 = u ∧ 1 + t.CR = n := by simpa using hu
    have hrun (k : Nat) (hk : k ≤ t.CR) : core.run (1 + k) s = .next (t.setCR (t.CR - k)) := by
      rw [Nat.add_comm, run_succ hstep, run_countdown hk]
    refine ⟨by rw [hrun _ le_rfl, Nat.sub_self], rfl, by omega, by omega, fun k hpos hk => ?_⟩
    obtain ⟨j, rfl⟩ : ∃ j, k = 1 + j := ⟨k - 1, by omega⟩
    refine ⟨_, hrun j (by omega), ?_⟩
    rw [State.setCR_CR]
    omega

/-- A run toward an address reports it reached at once, or after a tick that is not yet there (R186). -/
theorem runToward_eq_reached {p : Profile} {finish : Word} {budget used n : Nat} {s t : State} :
    runToward p finish budget used s = .reached t n ↔
      ((s.CR = 0 ∧ s.PC = finish) ∧ s = t ∧ used = n) ∨
        (¬(s.CR = 0 ∧ s.PC = finish) ∧ ∃ rest u, budget = rest + 1 ∧ stepIn p s = .next u ∧
          runToward p finish rest (used + 1) u = .reached t n) := by
  by_cases hend : s.CR = 0 ∧ s.PC = finish
  · cases budget <;> simp [runToward, hend]
  · cases budget with
    | zero => simp [runToward, hend]
    | succ rest =>
      simp only [runToward, hend, if_false, false_and, false_or, not_false_eq_true, true_and]
      cases stepIn p s <;> simp

/-- The ticks of a run toward an address that reports it reached, from a state that `used` ticks have led to (R186). -/
theorem ticks_of_runToward_reached {finish : Word} {budget used n : Nat} {s t : State}
    (h : runToward Config.profile finish budget used s = .reached t n) :
    ∃ ticks ≤ budget, n = used + ticks ∧ core.run ticks s = .next t ∧ (t.CR = 0 ∧ t.PC = finish) ∧
      ∀ k u, k < ticks → core.run k s = .next u → ¬(u.CR = 0 ∧ u.PC = finish) := by
  induction budget generalizing used s with
  | zero =>
    obtain ⟨hend, rfl, rfl⟩ | ⟨-, rest, u, hbudget, -⟩ := runToward_eq_reached.mp h
    · exact ⟨0, le_rfl, rfl, rfl, hend, nofun⟩
    · cases hbudget
  | succ budget ih =>
    obtain ⟨hend, rfl, rfl⟩ | ⟨hend, rest, u, hbudget, hstep, hrest⟩ := runToward_eq_reached.mp h
    · exact ⟨0, Nat.zero_le _, rfl, rfl, hend, nofun⟩
    · cases hbudget
      have hstep : step s = .next u := hstep
      obtain ⟨ticks, hle, hn, hrun, ht, hfirst⟩ := ih hrest
      refine ⟨ticks + 1, by omega, by omega, (run_succ hstep ticks).trans hrun, ht,
        fun k v hk hv => ?_⟩
      obtain _ | k := k
      · cases hv
        exact hend
      · exact hfirst k v (by omega) ((run_succ hstep k).symm.trans hv)

/-- Settles O58: the first boundary at the address, by induction on the budget (R186). -/
theorem runsEndAtTheNamedAddress : Obligations.RunsEndAtTheNamedAddress := by
  unfold Obligations.RunsEndAtTheNamedAddress
  intro finish budget s t n h
  obtain ⟨ticks, hle, hn, hrun, ⟨hCR, hPC⟩, hfirst⟩ := ticks_of_runToward_reached h
  obtain rfl : n = ticks := by omega
  exact ⟨hCR, hPC, hle, hrun, hfirst⟩

end Sys2Proof.Proofs
end

section
/-! PROOFS. Canonical memories and contents of the space correspond one to one (O54). -/

namespace Sys2Proof.Proofs

open Sys2Proof Sys2Proof.Machine

/-- A byte that differs from an unlisted one is listed. -/
theorem mem_of_read_ne {m : Memory} {a : Nat} (h : m.read a ≠ Config.unlistedByte) :
    (a, m.read a) ∈ m := by
  induction m with
  | nil => exact absurd rfl h
  | cons p m ih =>
    obtain ⟨k, b⟩ := p
    by_cases hk : k = a
    · simp [Memory.read, hk]
    · rw [Memory.read, if_neg hk] at h ⊢
      exact List.mem_cons_of_mem _ (ih h)

/-- In a canonical memory a listed byte is the one read at its address. -/
theorem read_eq_of_mem {m : Memory} (hm : m.Pairwise fun p q => p.1 < q.1) {a : Nat} {b : Byte}
    (h : (a, b) ∈ m) : m.read a = b := by
  induction m with
  | nil => cases h
  | cons p m ih =>
    obtain ⟨k, c⟩ := p
    obtain ⟨hfirst, hrest⟩ := List.pairwise_cons.mp hm
    obtain heq | h := List.mem_cons.mp h
    · cases heq
      simp [Memory.read]
    · have hk : k ≠ a := Nat.ne_of_lt (hfirst _ h)
      rw [Memory.read, if_neg hk, ih hrest h]

/-- The cells of a canonical memory are the bytes of the space that differ from an unlisted one. -/
theorem mem_iff_of_wf {m : Memory} (hm : m.wf) (p : Host.Cell) :
    p ∈ m ↔ p.1 < 65536 ∧ m.read p.1 = p.2 ∧ p.2 ≠ Config.unlistedByte := by
  obtain ⟨hrising, hcells⟩ := hm
  constructor
  · intro h
    obtain ⟨haddress, hbyte⟩ := hcells p h
    exact ⟨haddress, read_eq_of_mem hrising h, hbyte⟩
  · rintro ⟨-, hread, hbyte⟩
    have hmem : (p.1, m.read p.1) ∈ m := mem_of_read_ne (hread ▸ hbyte)
    rwa [hread] at hmem

/-- Two canonical memories that read alike have the same cells, in the same order. -/
theorem eq_of_read_eq {m m' : Memory} (hm : m.wf) (hm' : m'.wf)
    (h : ∀ a, a < 65536 → m.read a = m'.read a) : m = m' := by
  have hirrefl : Std.Irrefl fun p q : Host.Cell => p.1 < q.1 := ⟨fun p => lt_irrefl p.1⟩
  have hantisymm : Std.Antisymm fun p q : Host.Cell => p.1 < q.1 :=
    ⟨fun _ _ hlt hgt => absurd hgt hlt.not_gt⟩
  have hcells (p : Host.Cell) : p ∈ m ↔ p ∈ m' := by
    rw [mem_iff_of_wf hm, mem_iff_of_wf hm']
    exact and_congr_right fun haddress => by rw [h _ haddress]
  obtain ⟨hrising, -⟩ := hm
  obtain ⟨hrising', -⟩ := hm'
  exact hrising.eq_of_mem_iff hrising' hcells

/-- The bytes below `n` can be written one by one. -/
theorem exists_memory_below (f : Nat → Byte) {n : Nat} (hn : n ≤ 65536) :
    ∃ m : Memory, m.wf ∧ ∀ a < n, m.read a = f a := by
  induction n with
  | zero => exact ⟨[], by decide, nofun⟩
  | succ n ih =>
    obtain ⟨m, hm, hread⟩ := ih (Nat.le_of_succ_le hn)
    refine ⟨m.write n (f n), Memory.write_wf hm hn _, fun a ha => ?_⟩
    rw [Memory.read_write]
    by_cases han : a = n
    · rw [if_pos han, han]
    · rw [if_neg han, hread a (by omega)]

/-- Settles O54: a canonical memory is determined by what it reads as, and every contents is that of one. -/
theorem canonicalMemoryRepresentsContents : Obligations.CanonicalMemoryRepresentsContents := by
  unfold Obligations.CanonicalMemoryRepresentsContents
  refine ⟨fun m m' => eq_of_read_eq, fun f => ?_⟩
  obtain ⟨m, hm, hread⟩ := exists_memory_below (fun a => f (BitVec.ofNat 16 a)) le_rfl
  exact ⟨m, hm, fun a => by rw [hread a.toNat a.isLt, BitVec.ofNat_toNat, BitVec.setWidth_eq]⟩

end Sys2Proof.Proofs
end
